-- ==== Sys2Proof/Word.lean ====
section
/-! DEFINITION. The byte type of the block and the level of a line (00_scope.md R13, R18). -/

namespace Sys2Proof

/-- An 8-bit value, bit 0 the least significant; always unsigned (R13). -/
abbrev Byte := BitVec 8

/-- A line level or a wire bit: `true` is 1 (high), `false` is 0 (low) (R18). -/
abbrev Level := Bool

end Sys2Proof
end

