-- ==== Sys2Proof/Config.lean ====
section
/-! DEFINITION. What an implementation fixes: the parameters of 00_scope.md R11, and the free values
of the block (93_implementation_defined.md U2). Their default values, which the model names, stand
in Machine/Params.lean. -/

namespace Sys2Proof

/-- One entry of the key-map ROM: the regular and the shifted character, 0x00 meaning "empty"
(20_memory.md R75, D22). -/
structure KeyEntry where
  regular : Byte
  shifted : Byte
  deriving DecidableEq, Repr

/-- Whether a transmission waits for the device's line-level acknowledge: OPEN (R11, D25). -/
inductive TxLineAck where
  | noWait
  | wait
  deriving DecidableEq, Repr

/-- The configuration a model takes (R11): fixed before INIT and never changed (R263). -/
structure Config where
  /-- `DATA_BITS`: data bits per frame -/
  dataBits : Nat
  /-- `FRAME_BITS`: bits per frame -/
  frameBits : Nat
  /-- `QUEUE_CAP`: the command buffer's capacity in bytes -/
  queueCap : Nat
  /-- `SC_BREAK` -/
  scBreak : Byte
  /-- `SC_LSHIFT` -/
  scLshift : Byte
  /-- `SC_RSHIFT` -/
  scRshift : Byte
  /-- `SC_CAPS` -/
  scCaps : Byte
  /-- `MAP_LIMIT`: the highest mapped scan code; a value above 127 is a DESIGN CHOICE, log entry
  23. -/
  mapLimit : Nat
  /-- `REPLY_ACK` -/
  replyAck : Byte
  /-- `REPLY_NAK` -/
  replyNak : Byte
  /-- `CMD_SET_LEDS` -/
  cmdSetLeds : Byte
  /-- `LED_SCROLL` -/
  ledScroll : Byte
  /-- `LED_NUM` -/
  ledNum : Byte
  /-- `LED_CAPS` -/
  ledCaps : Byte
  /-- `KEYMAP`: the entries that are not (0x00, 0x00), by scan code (R197). -/
  keymap : List (Byte × KeyEntry)
  /-- `T_SETTLE_US`: OPEN; no rule depends on it (D24). -/
  tSettleUs : Nat
  /-- `TX_LINE_ACK`: OPEN (D25). -/
  txLineAck : TxLineAck
  deriving DecidableEq, Repr

/-- FREE VALUES (U2, D41): the bytes that `tx_byte` and the command buffer hold after INIT, which
the spec leaves unspecified. It has no body, so nothing can be proved of its values. Log entries 3
and 4. -/
opaque Config.unspecifiedByte : Nat → Byte

end Sys2Proof
end

