-- ==== Sys2Proof/Syntax.lean ====
section
/-! DEFINITION. The instructions: one constructor for each of the 40 rows of spec/opcode_table.json,
in the table's order. A row's fixed bits are no operands; its free bits are. -/

namespace Sys2Proof

/-- The rows of the opcode table. `v` is a delivered byte, `e` its has-error flag, `b` an observed
bit, `r` the release-pending bit of a key event, `clk` and `dat` the two sampled line levels. -/
inductive Instr where
  -- owner operations (30_encoding.md R106)
  | init
  | step (clk dat : Level)
  | requestLed (mask : Byte) (on : Bool)
  | enqueue (bytes : List Byte)
  -- the wire frame (R91): start, data, parity and stop as they are on the wire
  | frame (start : Level) (d : Byte) (p stop : Level)
  -- receive states (R121)
  | rxStart (b : Level)
  | rxData (b : Level)
  | rxParity (b : Level)
  | rxStop (b : Level)
  | observeBit (b : Level)
  | deliver (v : Byte) (e : Bool)
  -- reply context (R99)
  | cqReply (v : Byte) (e : Bool)
  | replyFrameError (v : Byte)
  | replyAck
  | replyNak
  | replyOther (v : Byte)
  | replyNakGuard
  -- key context (R100)
  | khDecoded (v : Byte) (e : Bool)
  | keyError (r : Bool) (v : Byte)
  | keyBreak (r : Bool)
  | keyReleaseShiftL
  | keyReleaseShiftR
  | keyReleaseOther (v : Byte)
  | keyPressShiftL
  | keyPressShiftR
  | keyPressCaps
  | keyPressHigh (v : Byte)
  | keyPressMapped (v : Byte)
  -- command queue, internal actions (R144, R145)
  | discard
  | send (v : Byte)
  -- transmitter (R151 to R159)
  | txBegin (v : Byte)
  | txSettle (clk dat : Level)
  | txWlow (clk dat : Level)
  | txWhigh (clk dat : Level)
  | txAck1 (clk dat : Level)
  | txAck2 (clk dat : Level)
  | txAck3 (clk dat : Level)
  | txComplete
  -- transmitted commands (R103, R104)
  | cmdSetLeds (caps num scroll : Bool)
  | cmdArbitrary (bytes : List Byte)
  deriving DecidableEq, Repr

end Sys2Proof
end

