-- ==== Sys2Proof/WellFormed.lean ====
section
/-! DEFINITION. Which operands an instruction may have, and which configurations meet the
constraints of 00_scope.md R12 and 42_key_handler.md R198. -/

namespace Sys2Proof

/-- Entry `c` of `KEYMAP`: the first one listed for it, (0x00, 0x00) where none is (R197). -/
def Config.entryOf : List (Byte × KeyEntry) → Byte → KeyEntry
  | [], _ => ⟨0, 0⟩
  | (k, x) :: rest, c => if k = c then x else Config.entryOf rest c

/-- A single bit within bits 2:0 (R12). -/
def Config.ledMaskOk (m : Byte) : Bool := m == 1 || m == 2 || m == 4

/-- The parameters agree with the rules that hold their sizes as numbers: a frame is 8 data bits
among 11 (R38, R91, R96, R155), and the 4-bit cursors reach `QUEUE_CAP` (R32). Log entry 15. -/
def Config.sized (c : Config) : Bool :=
  c.dataBits == 8 && c.frameBits == 11 && decide (c.queueCap ≤ 15)

/-- The constraints of R12 on the parameters, with the key-map facts R198 pins. -/
def Config.valid (c : Config) : Bool :=
  c.sized &&
  c.scBreak != c.scLshift && c.scBreak != c.scRshift && c.scBreak != c.scCaps &&
  c.scLshift != c.scRshift && c.scLshift != c.scCaps && c.scRshift != c.scCaps &&
  decide (c.scLshift.toNat ≤ c.mapLimit) && decide (c.scRshift.toNat ≤ c.mapLimit) &&
  decide (c.scCaps.toNat ≤ c.mapLimit) &&
  c.replyAck != c.replyNak &&
  Config.ledMaskOk c.ledScroll && Config.ledMaskOk c.ledNum && Config.ledMaskOk c.ledCaps &&
  c.ledScroll != c.ledNum && c.ledScroll != c.ledCaps && c.ledNum != c.ledCaps &&
  Config.entryOf c.keymap 0x1C == ⟨0x61, 0x41⟩ &&
  (Config.entryOf c.keymap 0x16).regular == 0x31

/-- The operands each row admits: a command has one byte or more (R142), and at most `QUEUE_CAP`
where it is a command format (R103); a decode class excludes the bytes of the classes above it (R99,
R100). A frame may have any bits: no frame is rejected at the encoding level (R92). -/
def Instr.wf (c : Config) : Instr → Bool
  | .init => true
  | .step _ _ => true
  | .requestLed _ _ => true
  | .enqueue bs => !bs.isEmpty
  | .frame _ _ _ _ => true
  | .rxStart _ => true
  | .rxData _ => true
  | .rxParity _ => true
  | .rxStop _ => true
  | .observeBit _ => true
  | .deliver _ _ => true
  | .cqReply _ _ => true
  | .replyFrameError _ => true
  | .replyAck => true
  | .replyNak => true
  | .replyOther v => v != c.replyAck && v != c.replyNak
  | .replyNakGuard => true
  | .khDecoded _ _ => true
  | .keyError _ _ => true
  | .keyBreak _ => true
  | .keyReleaseShiftL => true
  | .keyReleaseShiftR => true
  | .keyReleaseOther v => v != c.scBreak && v != c.scLshift && v != c.scRshift
  | .keyPressShiftL => true
  | .keyPressShiftR => true
  | .keyPressCaps => true
  | .keyPressHigh v => v != c.scBreak && decide (c.mapLimit < v.toNat)
  | .keyPressMapped v =>
    v != c.scBreak && v != c.scLshift && v != c.scRshift && v != c.scCaps &&
      decide (v.toNat ≤ c.mapLimit)
  | .discard => true
  | .send _ => true
  | .txBegin _ => true
  | .txSettle _ _ => true
  | .txWlow _ _ => true
  | .txWhigh _ _ => true
  | .txAck1 _ _ => true
  | .txAck2 _ _ => true
  | .txAck3 _ _ => true
  | .txComplete => true
  | .cmdSetLeds _ _ _ => true
  | .cmdArbitrary bs => !bs.isEmpty && decide (bs.length ≤ c.queueCap)

end Sys2Proof
end

