-- ==== Sys2Proof/Machine/Params.lean ====
section
/-! DEFINITION. The values the model names for the parameters of 00_scope.md R11: the defaults of
R11, the reference key map of 42_key_handler.md R197, and a value for each of the two other OPEN
parameters. Log entry 2. -/

namespace Sys2Proof.Machine

/-- The reference key map of R197, part 1. -/
def keymapPart1 : List (Byte × KeyEntry) :=
  [(0x0E, ⟨0x60, 0x7E⟩), (0x15, ⟨0x71, 0x51⟩), (0x16, ⟨0x31, 0x21⟩), (0x1A, ⟨0x7A, 0x5A⟩),
   (0x1B, ⟨0x73, 0x53⟩), (0x1C, ⟨0x61, 0x41⟩), (0x1D, ⟨0x77, 0x57⟩), (0x1E, ⟨0x32, 0x40⟩),
   (0x21, ⟨0x63, 0x43⟩), (0x22, ⟨0x78, 0x58⟩), (0x23, ⟨0x64, 0x44⟩), (0x24, ⟨0x65, 0x45⟩)]

/-- The reference key map of R197, part 2. -/
def keymapPart2 : List (Byte × KeyEntry) :=
  [(0x25, ⟨0x34, 0x24⟩), (0x26, ⟨0x33, 0x23⟩), (0x29, ⟨0x20, 0x20⟩), (0x2A, ⟨0x76, 0x56⟩),
   (0x2B, ⟨0x66, 0x46⟩), (0x2C, ⟨0x74, 0x54⟩), (0x2D, ⟨0x72, 0x52⟩), (0x2E, ⟨0x35, 0x25⟩),
   (0x31, ⟨0x6E, 0x4E⟩), (0x32, ⟨0x62, 0x42⟩), (0x33, ⟨0x68, 0x48⟩), (0x34, ⟨0x67, 0x47⟩)]

/-- The reference key map of R197, part 3. -/
def keymapPart3 : List (Byte × KeyEntry) :=
  [(0x35, ⟨0x79, 0x59⟩), (0x36, ⟨0x36, 0x5E⟩), (0x3A, ⟨0x6D, 0x4D⟩), (0x3B, ⟨0x6A, 0x4A⟩),
   (0x3C, ⟨0x75, 0x55⟩), (0x3D, ⟨0x37, 0x26⟩), (0x3E, ⟨0x38, 0x2A⟩), (0x41, ⟨0x2C, 0x3C⟩),
   (0x42, ⟨0x6B, 0x4B⟩), (0x43, ⟨0x69, 0x49⟩), (0x44, ⟨0x6F, 0x4F⟩), (0x45, ⟨0x30, 0x29⟩)]

/-- The reference key map of R197, part 4. -/
def keymapPart4 : List (Byte × KeyEntry) :=
  [(0x46, ⟨0x39, 0x28⟩), (0x49, ⟨0x2E, 0x3E⟩), (0x4A, ⟨0x2F, 0x3F⟩), (0x4B, ⟨0x6C, 0x4C⟩),
   (0x4C, ⟨0x3B, 0x3A⟩), (0x4D, ⟨0x70, 0x50⟩), (0x4E, ⟨0x2D, 0x5F⟩), (0x52, ⟨0x27, 0x22⟩),
   (0x54, ⟨0x5B, 0x7B⟩), (0x55, ⟨0x3D, 0x2B⟩), (0x5B, ⟨0x5D, 0x7D⟩), (0x5D, ⟨0x5C, 0x7C⟩)]

/-- PRESUMED (G5, D20): the reference contents of `KEYMAP`, US layout (R197). -/
def referenceKeymap : List (Byte × KeyEntry) :=
  keymapPart1 ++ keymapPart2 ++ keymapPart3 ++ keymapPart4

/-- The defaults of R11. `SC_RSHIFT`, the replies, the set-indicators opcode and the LED masks are
PRESUMED by the spec itself (G1 to G4); `KEYMAP`, `T_SETTLE_US` and `TX_LINE_ACK` are OPEN and these
values are a DESIGN CHOICE. -/
def defaultConfig : Config where
  dataBits := 8
  frameBits := 11
  queueCap := 8
  scBreak := 0xF0
  scLshift := 0x12
  scRshift := 0x59
  scCaps := 0x58
  mapLimit := 127
  replyAck := 0xFA
  replyNak := 0xFE
  cmdSetLeds := 0xED
  ledScroll := 0x01
  ledNum := 0x02
  ledCaps := 0x04
  keymap := referenceKeymap
  tSettleUs := 0
  txLineAck := .noWait

end Sys2Proof.Machine
end

