-- ==== Sys2Proof/Decode.lean ====
section
/-! DEFINITION. Decoding and encoding of the rows that have a binary form (30_encoding.md). A word
is read in a format, which the block's situation fixes: the context of a delivered byte (R98), the
receive state (R121), the transmit phase (R56). Decoding is total on bytes and rejects by name. A
word of 8 bits or fewer is one byte, a longer one two bytes, the low one first; a command is its
bytes in wire order (R78). -/

namespace Sys2Proof

/-- The formats of spec/opcode_table.json that have bits. -/
inductive Format where
  /-- wire_frame_11 (R91) -/
  | wireFrame
  /-- rx_observe_3 (R121) -/
  | rxObserve
  /-- reply_event_9 where `cq_head` is at least 1 (R99) -/
  | replyEvent
  /-- reply_event_9 where `cq_head` is 0, in which a NAK is REPLY_NAK_GUARD (R150) -/
  | replyEventNoneSent
  /-- key_event_10 (R100) -/
  | keyEvent
  /-- tx_phase_lines_2 in TX_SETTLE (R152) -/
  | txSettle
  /-- tx_phase_lines_2 in TX_WLOW(k) (R153) -/
  | txWlow
  /-- tx_phase_lines_2 in TX_WHIGH(k) (R154) -/
  | txWhigh
  /-- tx_phase_lines_2 in TX_ACK1 (R156) -/
  | txAck1
  /-- tx_phase_lines_2 in TX_ACK2 (R157) -/
  | txAck2
  /-- tx_phase_lines_2 in TX_ACK3 (R158) -/
  | txAck3
  /-- command_2byte (R104) -/
  | command2
  /-- command_nbyte (R103) -/
  | commandN
  deriving DecidableEq, Repr

/-- Why decoding rejects bytes. -/
inductive DecodeError where
  /-- Fewer bytes than the format has. -/
  | truncated
  /-- A bit above the format's width is set. -/
  | unusedBits
  /-- The first byte of a two-byte command is not `CMD_SET_LEDS` (R104). -/
  | notSetLeds
  /-- A bit of the indicator byte outside the three LED masks is set (R105). -/
  | ledBitsReserved
  /-- A command of zero bytes (R142). -/
  | emptyCommand
  /-- A command of more than `QUEUE_CAP` bytes (R103). -/
  | commandTooLong
  deriving DecidableEq, Repr

/-! ### Bit fields -/

/-- The low byte of a word. -/
def lowByte {n : Nat} (w : BitVec n) : Byte := w.extractLsb' 0 8

/-- A two-byte word's bytes, the low one first. -/
def wordBytes {n : Nat} (w : BitVec n) : List Byte := [w.extractLsb' 0 8, w.extractLsb' 8 8]

/-- Reads an `n`-bit word from one byte. -/
def takeByte (n : Nat) : List Byte → Except DecodeError (BitVec n × List Byte)
  | [] => .error .truncated
  | b :: rest => if b.toNat < 2 ^ n then .ok (b.setWidth n, rest) else .error .unusedBits

/-- Reads an `n`-bit word from two bytes, the low one first. -/
def takeWord (n : Nat) : List Byte → Except DecodeError (BitVec n × List Byte)
  | lo :: hi :: rest =>
    let w : BitVec 16 := hi ++ lo
    if w.toNat < 2 ^ n then .ok (w.setWidth n, rest) else .error .unusedBits
  | _ => .error .truncated

/-! ### Words to instructions -/

/-- A frame word, f0 at bit 0 (R93). No frame is rejected here (R92). -/
def decodeFrame (w : BitVec 11) : Instr :=
  .frame (w.getLsbD 0) (w.extractLsb' 1 8) (w.getLsbD 9) (w.getLsbD 10)

/-- A receive-state observation: the state's code in bits 2:1, the observed bit in bit 0 (R121). -/
def decodeRx (w : BitVec 3) : Instr :=
  match w.getLsbD 2, w.getLsbD 1 with
  | false, false => .rxStart (w.getLsbD 0)
  | false, true => .rxData (w.getLsbD 0)
  | true, false => .rxParity (w.getLsbD 0)
  | true, true => .rxStop (w.getLsbD 0)

/-- The class of a reply, in the priority order of R99; `noneSent` is `cq_head = 0` (R150). -/
def classifyReply (c : Config) (noneSent : Bool) (v : Byte) (e : Bool) : Instr :=
  if e then .replyFrameError v
  else if v = c.replyAck then .replyAck
  else if v = c.replyNak then (if noneSent then .replyNakGuard else .replyNak)
  else .replyOther v

/-- A reply event: has-error in bit 8, the byte in bits 7:0 (R99). -/
def decodeReply (c : Config) (noneSent : Bool) (w : BitVec 9) : Instr :=
  classifyReply c noneSent (lowByte w) (w.getLsbD 8)

/-- The class of a key event, in the priority order of R100 and R186. -/
def classifyKey (c : Config) (r : Bool) (v : Byte) (e : Bool) : Instr :=
  if e then .keyError r v
  else if v = c.scBreak then .keyBreak r
  else if r then
    (if v = c.scLshift then .keyReleaseShiftL
     else if v = c.scRshift then .keyReleaseShiftR
     else .keyReleaseOther v)
  else if v = c.scLshift then .keyPressShiftL
  else if v = c.scRshift then .keyPressShiftR
  else if v = c.scCaps then .keyPressCaps
  else if c.mapLimit < v.toNat then .keyPressHigh v
  else .keyPressMapped v

/-- A key event: release-pending in bit 9, has-error in bit 8, the byte in bits 7:0 (R100). -/
def decodeKey (c : Config) (w : BitVec 10) : Instr :=
  classifyKey c (w.getLsbD 9) (lowByte w) (w.getLsbD 8)

/-- The indicator byte of a set-indicators command (R105). -/
def ledByte (c : Config) (caps num scroll : Bool) : Byte :=
  (if caps then c.ledCaps else 0) ||| (if num then c.ledNum else 0) |||
    (if scroll then c.ledScroll else 0)

/-- A set-indicators command: the opcode, then the indicator byte (R104). -/
def decodeSetLeds (c : Config) (op m : Byte) : Except DecodeError Instr :=
  if op ≠ c.cmdSetLeds then .error .notSetLeds
  else
    let caps := m &&& c.ledCaps != 0
    let num := m &&& c.ledNum != 0
    let scroll := m &&& c.ledScroll != 0
    if ledByte c caps num scroll = m then .ok (.cmdSetLeds caps num scroll)
    else .error .ledBitsReserved

/-- A transmit-phase poll: clk_i in bit 1, dat_i in bit 0 (R152 to R158). -/
def decodeLines (row : Level → Level → Instr) (bs : List Byte) :
    Except DecodeError (Instr × List Byte) :=
  (takeByte 2 bs).map fun p => (row (p.1.getLsbD 1) (p.1.getLsbD 0), p.2)

/-- The instruction the bytes hold in the format, with the bytes after it. -/
def decode (c : Config) (f : Format) (bs : List Byte) : Except DecodeError (Instr × List Byte) :=
  match f with
  | .wireFrame => (takeWord 11 bs).map fun p => (decodeFrame p.1, p.2)
  | .rxObserve => (takeByte 3 bs).map fun p => (decodeRx p.1, p.2)
  | .replyEvent => (takeWord 9 bs).map fun p => (decodeReply c false p.1, p.2)
  | .replyEventNoneSent => (takeWord 9 bs).map fun p => (decodeReply c true p.1, p.2)
  | .keyEvent => (takeWord 10 bs).map fun p => (decodeKey c p.1, p.2)
  | .txSettle => decodeLines .txSettle bs
  | .txWlow => decodeLines .txWlow bs
  | .txWhigh => decodeLines .txWhigh bs
  | .txAck1 => decodeLines .txAck1 bs
  | .txAck2 => decodeLines .txAck2 bs
  | .txAck3 => decodeLines .txAck3 bs
  | .command2 =>
    match bs with
    | op :: m :: rest => (decodeSetLeds c op m).map fun i => (i, rest)
    | _ => .error .truncated
  | .commandN =>
    if bs.isEmpty then .error .emptyCommand
    else if c.queueCap < bs.length then .error .commandTooLong
    else .ok (.cmdArbitrary bs, [])

/-! ### Instructions to words -/

/-- A frame as an 11-bit word, f0 at bit 0 (R93). -/
def frameWord (start : Level) (d : Byte) (p stop : Level) : BitVec 11 :=
  BitVec.ofBool stop ++ BitVec.ofBool p ++ d ++ BitVec.ofBool start

/-- A receive-state observation as a word (R121). -/
def rxWord (s1 s0 : Bool) (b : Level) : BitVec 3 :=
  BitVec.ofBool s1 ++ BitVec.ofBool s0 ++ BitVec.ofBool b

/-- A reply event as a word (R99). -/
def replyWord (e : Bool) (v : Byte) : BitVec 9 := BitVec.ofBool e ++ v

/-- A key event as a word (R100). -/
def keyWord (r e : Bool) (v : Byte) : BitVec 10 := BitVec.ofBool r ++ BitVec.ofBool e ++ v

/-- Two sampled levels as a word (R152 to R158). -/
def linesWord (clk dat : Level) : BitVec 2 := BitVec.ofBool clk ++ BitVec.ofBool dat

/-- The format a row is encoded in; none where the row has no binary form (R106). -/
def format : Instr → Option Format
  | .init | .step _ _ | .requestLed _ _ | .enqueue _ => none
  | .frame _ _ _ _ => some .wireFrame
  | .rxStart _ | .rxData _ | .rxParity _ | .rxStop _ => some .rxObserve
  | .observeBit _ | .deliver _ _ | .cqReply _ _ => none
  | .replyFrameError _ | .replyAck | .replyNak | .replyOther _ => some .replyEvent
  | .replyNakGuard => some .replyEventNoneSent
  | .khDecoded _ _ => none
  | .keyError _ _ | .keyBreak _ | .keyReleaseShiftL | .keyReleaseShiftR | .keyReleaseOther _
  | .keyPressShiftL | .keyPressShiftR | .keyPressCaps | .keyPressHigh _ | .keyPressMapped _ =>
    some .keyEvent
  | .discard | .send _ | .txBegin _ => none
  | .txSettle _ _ => some .txSettle
  | .txWlow _ _ => some .txWlow
  | .txWhigh _ _ => some .txWhigh
  | .txAck1 _ _ => some .txAck1
  | .txAck2 _ _ => some .txAck2
  | .txAck3 _ _ => some .txAck3
  | .txComplete => none
  | .cmdSetLeds _ _ _ => some .command2
  | .cmdArbitrary _ => some .commandN

/-- The bytes of an instruction; none where the row has no binary form (R106). -/
def encode (c : Config) : Instr → Option (List Byte)
  | .init | .step _ _ | .requestLed _ _ | .enqueue _ => none
  | .frame start d p stop => some (wordBytes (frameWord start d p stop))
  | .rxStart b => some [(rxWord false false b).setWidth 8]
  | .rxData b => some [(rxWord false true b).setWidth 8]
  | .rxParity b => some [(rxWord true false b).setWidth 8]
  | .rxStop b => some [(rxWord true true b).setWidth 8]
  | .observeBit _ | .deliver _ _ | .cqReply _ _ => none
  | .replyFrameError v => some (wordBytes (replyWord true v))
  | .replyAck => some (wordBytes (replyWord false c.replyAck))
  | .replyNak => some (wordBytes (replyWord false c.replyNak))
  | .replyOther v => some (wordBytes (replyWord false v))
  | .replyNakGuard => some (wordBytes (replyWord false c.replyNak))
  | .khDecoded _ _ => none
  | .keyError r v => some (wordBytes (keyWord r true v))
  | .keyBreak r => some (wordBytes (keyWord r false c.scBreak))
  | .keyReleaseShiftL => some (wordBytes (keyWord true false c.scLshift))
  | .keyReleaseShiftR => some (wordBytes (keyWord true false c.scRshift))
  | .keyReleaseOther v => some (wordBytes (keyWord true false v))
  | .keyPressShiftL => some (wordBytes (keyWord false false c.scLshift))
  | .keyPressShiftR => some (wordBytes (keyWord false false c.scRshift))
  | .keyPressCaps => some (wordBytes (keyWord false false c.scCaps))
  | .keyPressHigh v => some (wordBytes (keyWord false false v))
  | .keyPressMapped v => some (wordBytes (keyWord false false v))
  | .discard | .send _ | .txBegin _ => none
  | .txSettle clk dat => some [(linesWord clk dat).setWidth 8]
  | .txWlow clk dat => some [(linesWord clk dat).setWidth 8]
  | .txWhigh clk dat => some [(linesWord clk dat).setWidth 8]
  | .txAck1 clk dat => some [(linesWord clk dat).setWidth 8]
  | .txAck2 clk dat => some [(linesWord clk dat).setWidth 8]
  | .txAck3 clk dat => some [(linesWord clk dat).setWidth 8]
  | .txComplete => none
  | .cmdSetLeds caps num scroll => some [c.cmdSetLeds, ledByte c caps num scroll]
  | .cmdArbitrary bs => some bs

/-! ### The host's reading of a table word -/

/-- The format a table word is read in where no context is given: of the rows of that width that
match it, the one that leaves the fewest bits free, then the earliest. DESIGN CHOICE, log entry 12:
the spec's formats overlap, and only the block's situation tells them apart (R98, R121, R56). -/
def tableFormat (nbits w : Nat) : Option Format :=
  match nbits with
  | 2 => if w = 3 then some .txAck3 else if w = 2 then some .txWhigh else some .txWlow
  | 3 => some .rxObserve
  | 8 => if w = 3 then some .txAck3 else some .rxObserve
  | 9 => some .replyEvent
  | 10 => some .keyEvent
  | 11 => some .wireFrame
  | 16 =>
    if 0x800 ≤ w then some .command2
    else if 0x400 ≤ w then some .wireFrame
    else if 0x200 ≤ w then some .keyEvent
    else if 0x100 ≤ w then some .replyEvent
    else if w = 0xFA ∨ w = 0xFE then some .replyEvent
    else some .keyEvent
  | _ => none

/-- A table word's bytes as the block holds them: a command's opcode, bits 15:8 of the table's word,
is its first byte (R78); other words have their low byte first. -/
def tableBytes (f : Format) (w : Nat) : List Byte :=
  match f with
  | .command2 => [BitVec.ofNat 8 (w / 256), BitVec.ofNat 8 w]
  | .wireFrame | .replyEvent | .replyEventNoneSent | .keyEvent =>
    [BitVec.ofNat 8 w, BitVec.ofNat 8 (w / 256)]
  | .rxObserve | .txSettle | .txWlow | .txWhigh | .txAck1 | .txAck2 | .txAck3 | .commandN =>
    [BitVec.ofNat 8 w]

/-- The instruction the decoder reads from a word numbered as spec/opcode_table.json numbers it,
under the default configuration. -/
def decodeTableWord (nbits w : Nat) : Option Instr :=
  match tableFormat nbits w with
  | none => none
  | some f =>
    match decode Machine.defaultConfig f (tableBytes f w) with
    | .ok (i, []) => some i
    | .ok (_, _ :: _) => none
    | .error _ => none

end Sys2Proof
end

