-- ==== Sys2Proof/Machine/State.lean ====
section
/-! DEFINITION. The block's state as plain data: every element of 10_state.md R32, and what a run
carries beside it (the stimuli to come, the observations, the configuration). -/

namespace Sys2Proof.Machine

/-- The receive state (R33). -/
inductive RxState where
  | idle
  | data
  | parityBit
  | stopBit
  deriving DecidableEq, Repr

/-- The first framing error of the current frame (R36). -/
inductive RxErr where
  | none
  | start
  | parity
  | stop
  deriving DecidableEq, Repr

/-- The position of the blocking byte transmission: 25 values (R38). In `wlow k` and `whigh k`,
k = 0..7 are the data bits, 8 the parity bit, 9 the stop bit. -/
inductive TxPhase where
  | idle
  | settle
  | wlow (k : Fin 10)
  | whigh (k : Fin 10)
  | ack1
  | ack2
  | ack3
  deriving DecidableEq, Repr

/-- The two lines of the link (R216). -/
inductive Line where
  | clk
  | dat
  deriving DecidableEq, Repr

/-- The modifier mask: left shift, right shift, caps-lock (R46). -/
structure Mods where
  left : Bool
  right : Bool
  caps : Bool
  deriving DecidableEq, Repr

/-- The six error conditions (60_exceptions.md R230). -/
inductive ErrorCode where
  | startBit
  | parity
  | stopBit
  | queueFull
  | unexpectedReply
  | replyFrame
  deriving DecidableEq, Repr

/-- An event of the output trace (43_interface.md R218). -/
inductive Event where
  /-- `EMIT(c)` -/
  | emit (c : Byte)
  /-- `DIAG(code)` -/
  | diag (code : ErrorCode)
  /-- `DIAG(code, byte)` -/
  | diagByte (code : ErrorCode) (v : Byte)
  deriving DecidableEq, Repr

/-- What ENQUEUE and REQUEST_LED return (R215). -/
inductive OpResult where
  | ok
  | full
  deriving DecidableEq, Repr

/-- One stimulus: an owner operation, or a poll by a transmit phase, each poll with the levels it
samples (R17, R107). `frame` is the script's `RXFRAME*`, the owner's 22 STEPs over one frame
(R108). -/
inductive Stimulus where
  | init
  | step (clk dat : Level)
  | led (mask : Byte) (on : Bool)
  | enq (bytes : List Byte)
  | txp (clk dat : Level)
  | frame (start : Level) (d : Byte) (p stop : Level)
  deriving DecidableEq, Repr

/-- The command buffer's contents: the indices that hold another byte than 0x00, strictly rising,
each with its byte. An unlisted index holds 0x00 (R41; log entry 4). -/
abbrev Memory := List Host.Cell

/-- The state (R32). The fields from `initialised` on are the model's own, or what the spec calls
observation or configuration. -/
structure State where
  /-- `rx_state` (R33) -/
  rxState : RxState
  /-- `rx_count` (R34) -/
  rxCount : BitVec 4
  /-- `rx_acc` (R35) -/
  rxAcc : Byte
  /-- `rx_err` (R36) -/
  rxErr : RxErr
  /-- `prev_clk` (R37) -/
  prevClk : Level
  /-- `tx_phase` (R38) -/
  txPhase : TxPhase
  /-- `tx_byte` (R39) -/
  txByte : Byte
  /-- `clk_lo` (R40) -/
  clkLo : Bool
  /-- `dat_lo` (R40) -/
  datLo : Bool
  /-- `cq_buf` (R41) -/
  buf : Memory
  /-- `cq_head` (R42) -/
  cqHead : BitVec 4
  /-- `cq_tail` (R43) -/
  cqTail : BitVec 4
  /-- `awaiting` (R44) -/
  awaiting : Bool
  /-- `mods` (R46) -/
  mods : Mods
  /-- `rel_pend` (R47) -/
  relPend : Bool
  /-- `leds`: bit 0 scroll-lock, bit 1 num-lock, bit 2 caps-lock (R48) -/
  leds : BitVec 3
  /-- Whether the owner has called INIT (R262). -/
  initialised : Bool
  /-- The output trace `out` (R50, R218). -/
  out : List Event
  /-- The results the owner has got back, oldest first (R215). -/
  results : List OpResult
  /-- What the operation blocked in the current transmission returns at its end (R159, R211). -/
  caller : Option OpResult
  /-- The stimuli to come, the next one first (R17, R51). -/
  inputs : List Stimulus
  /-- The number of the next free value (U2). -/
  freeIdx : Nat
  /-- The configuration: no operation writes it (R49). -/
  cfg : Config
  deriving DecidableEq, Repr

/-- Why the machine stops. Raised only outside the states reached from reset (R74, R237). -/
inductive Fault where
  /-- A buffer read or write outside `0 .. QUEUE_CAP - 1`, or a read at or above `cq_tail` (R74).
  Raised by ENQUEUE, REQUEST_LED, KEY_PRESS_CAPS, REPLY_ACK, REPLY_NAK,
  the commands, and what runs them. Safe. -/
  | bufferRange
  /-- `rx_count` at `DATA_BITS` or above in the Data state, where R123 gives no step. Raised by
  RX_DATA and what runs it. Safe. -/
  | rxCountRange
  deriving DecidableEq, Repr

/-- Why an instruction has no step in a state. -/
inductive Refusal where
  /-- No meaning given yet. Raised by the dispatch only. Safe. -/
  | notModelled (mnemonic : String)
  /-- Anything but INIT before the first INIT (R262, U1). Raised by every other row. Safe. -/
  | beforeInit
  /-- Anything but the current transmit phase while a transmission is in progress (R56, U14). Raised
  by every row that is no transmit phase. Safe. -/
  | busy
  /-- A transmit poll where that phase is not the current one (R56, R107). Raised by the transmit
  phases and TX_COMPLETE, and by the fetch of a poll while no transmission is in progress. Safe. -/
  | phaseNotCurrent
  /-- An internal row where its dispatch does not select it (R98, R121). Raised by the
  receive-state, reply and key rows, CQ_REPLY and KH_DECODED. Safe. -/
  | notSelected
  /-- A command of zero bytes (R142, U13). Raised by ENQUEUE and CMD_ARBITRARY. Safe. -/
  | emptyCommand
  deriving DecidableEq, Repr

/-- The state after INIT under a configuration: the reset values of R32 and R260. `txByte` and
the bytes of `buf` are unspecified there and 0x00 here (D41; DESIGN CHOICE, log entries 3 and 4). -/
def State.resetWith (c : Config) : State where
  rxState := .idle
  rxCount := 0
  rxAcc := 0x00
  rxErr := .none
  prevClk := true
  txPhase := .idle
  txByte := 0x00
  clkLo := false
  datLo := false
  buf := []
  cqHead := 0
  cqTail := 0
  awaiting := false
  mods := ⟨false, false, false⟩
  relPend := false
  leds := 0
  initialised := true
  out := []
  results := []
  caller := none
  inputs := []
  freeIdx := 0
  cfg := c

/-- The machine right after reset, under the default configuration (log entry 2). -/
def State.reset : State := State.resetWith defaultConfig

end Sys2Proof.Machine
end

