-- ==== Sys2Proof/Machine/Operands.lean ====
section
/-! DEFINITION. The operand forms: parity, frame bits, assembled bytes, key-map entries, LED masks,
and the polls that present a frame. -/

namespace Sys2Proof.Machine

/-- `popcount(v)`: the number of 1 bits (R15). -/
def popcount (v : Byte) : Nat := ((List.range 8).map fun i => (v.getLsbD i).toNat).sum

/-- `oddpar(v)`: 1 exactly when `popcount(v)` is even (R94). -/
def oddpar (v : Byte) : Level := popcount v % 2 == 0

/-- `FW(B)`: the error-free frame word of a byte (R93). -/
def fw (v : Byte) : BitVec 11 := frameWord false v (oddpar v) true

/-- A frame in wire order, f0 first: start, `DATA_BITS` data bits, parity, stop (R91). -/
def wireBits (c : Config) (start : Level) (d : Byte) (p stop : Level) : List Level :=
  start :: (List.range c.dataBits).map (fun i => d.getLsbD i) ++ [p, stop]

/-- The polls of `RXBIT d`: the clock seen high, then low with data `d` (R108). -/
def bitPolls (d : Level) : List (Level × Level) := [(true, d), (false, d)]

/-- The polls of one frame, two for each bit: 22 (R108). -/
def framePolls (c : Config) (start : Level) (d : Byte) (p stop : Level) : List (Level × Level) :=
  (wireBits c start d p stop).flatMap bitPolls

/-- `b << n` as a byte (R123). -/
def bitAt (b : Level) (n : Nat) : Byte := (BitVec.ofBool b).setWidth 8 <<< n

/-- The bit sent at the k-th clock phase: the data bits, the parity bit, the stop bit (R155). -/
def txbit (c : Config) (v : Byte) (k : Fin 10) : Level :=
  if k.val < c.dataBits then v.getLsbD k.val else if k.val = c.dataBits then oddpar v else true

/-- Another bit follows the k-th: `FRAME_BITS` bits go out, f0 at the settle phase (R154). -/
def moreBits (c : Config) (k : Fin 10) : Bool :=
  decide (k.val < 9) && decide (k.val + 2 < c.frameBits)

/-- `KEYMAP[c]` (R76), for a code above 127 too (DESIGN CHOICE, log entry 23). -/
def keymapAt (c : Config) (v : Byte) : KeyEntry := Config.entryOf c.keymap v

/-- `LED State` after a request: the three low bits of `mask` set or cleared (R212, R213). -/
def ledsAfter (leds : BitVec 3) (mask : Byte) (on : Bool) : BitVec 3 :=
  if on then leds ||| mask.setWidth 3 else leds &&& ~~~(mask.setWidth 3)

/-- The bytes of a set-indicators command: opcode, then the LED state zero-extended (R104). -/
def ledCommand (c : Config) (leds : BitVec 3) : List Byte := [c.cmdSetLeds, leds.setWidth 8]

/-- The receive state's code in a receive-state observation word (R33, R121). -/
def RxState.code : RxState → Bool × Bool
  | .idle => (false, false)
  | .data => (false, true)
  | .parityBit => (true, false)
  | .stopBit => (true, true)

/-- The modifier mask as three bits: L bit 0, R bit 1, C bit 2 (R46). -/
def Mods.bits (m : Mods) : BitVec 3 :=
  BitVec.ofBool m.caps ++ BitVec.ofBool m.right ++ BitVec.ofBool m.left

/-- The number of an error condition (R230). -/
def ErrorCode.number : ErrorCode → Nat
  | .startBit => 1
  | .parity => 2
  | .stopBit => 3
  | .queueFull => 4
  | .unexpectedReply => 5
  | .replyFrame => 6

/-- The diagnostic code of a framing error; none where there is no error (R125, R230). -/
def RxErr.code : RxErr → Option ErrorCode
  | .none => Option.none
  | .start => some .startBit
  | .parity => some .parity
  | .stop => some .stopBit

end Sys2Proof.Machine
end

