-- ==== Sys2Proof/Machine/Flags.lean ====
section
/-! DEFINITION. The flags and conditions the rules compute (10_state.md R52). -/

namespace Sys2Proof.Machine

/-- A falling clock edge between the previous poll and this one (R120). -/
def edge (s : State) (clk : Level) : Bool := s.prevClk && !clk

/-- The block is busy while a transmission is in progress (R56). -/
def busy (s : State) : Bool := decide (s.txPhase ≠ .idle)

/-- The has-error flag delivered with a byte (R52, R96). -/
def hasError (s : State) : Bool := decide (s.rxErr ≠ .none)

/-- A command of `n` bytes passes the capacity check (R140). -/
def fits (s : State) (n : Nat) : Bool := decide (s.cqTail.toNat + n ≤ s.cfg.queueCap)

/-- The result of an enqueue of `n` bytes (R140, R141). -/
def resultFor (s : State) (n : Nat) : OpResult := if fits s n then .ok else .full

/-- `v` is a shift code (R182, R184). -/
def isShift (c : Config) (v : Byte) : Bool := v == c.scLshift || v == c.scRshift

/-- `alpha(r)`: the regular character is in 'a'..'z' (R189). -/
def alpha (r : Byte) : Bool := decide (0x61 ≤ r.toNat) && decide (r.toNat ≤ 0x7A)

/-- Shift-effective (R46, R192). -/
def shiftEffective (m : Mods) : Bool := m.left || m.right

/-- Whether the shifted character is selected (R188, R190). -/
def selectsShifted (m : Mods) (r : Byte) : Bool :=
  if alpha r then shiftEffective m ^^ m.caps else shiftEffective m

/-- The character a press selects (R188, R190). -/
def selectedChar (m : Mods) (x : KeyEntry) : Byte :=
  if selectsShifted m x.regular then x.shifted else x.regular

end Sys2Proof.Machine
end

