-- ==== Sys2Proof/Machine/Ops.lean ====
section
/-! DEFINITION. The named operations over the state: sequencing, the conditions under which a row
has a step, the command buffer, Bus Access, the output sink, error recording and the owner's
results. The block has no trap: an error is recorded, returned or emitted, and nothing else
(60_exceptions.md R237, R245, R246), so `recordErr` and `emit` stand where another machine takes an
exception. -/

namespace Sys2Proof.Machine

/-- The outcome of a step of this machine. -/
abbrev Outcome := Host.Outcome State Fault Refusal

/-! ### Sequencing -/

/-- Runs `f` after `o` where `o` answers a next state (R15). -/
def andThen (o : Outcome) (f : State → Outcome) : Outcome :=
  match o with
  | .next s => f s
  | .fault r => .fault r
  | .refused r => .refused r

/-- The step exists only after INIT and while the block is not busy (R56, R211, R262). -/
def whenReady (s : State) (o : Outcome) : Outcome :=
  if s.initialised then (if s.txPhase = .idle then o else .refused .busy)
  else .refused .beforeInit

/-- The step exists only where its dispatch selects it (R98, R121). -/
def whenSelected (b : Bool) (o : Outcome) : Outcome := if b then o else .refused .notSelected

/-! ### The command buffer (20_memory.md R71 to R74) -/

/-- The byte at an index: the listed one, 0x00 where none is listed (log entry 4). -/
def Memory.read : Memory → Nat → Byte
  | [], _ => 0x00
  | (a, v) :: rest, i => if a = i then v else Memory.read rest i

/-- Lists a byte at an index, keeping the list strictly rising. -/
def Memory.insert : Memory → Nat → Byte → Memory
  | [], i, v => [(i, v)]
  | (a, x) :: rest, i, v =>
    if i < a then (i, v) :: (a, x) :: rest
    else if i = a then (i, v) :: rest
    else (a, x) :: Memory.insert rest i v

/-- Unlists an index. -/
def Memory.erase : Memory → Nat → Memory
  | [], _ => []
  | (a, x) :: rest, i =>
    if a = i then Memory.erase rest i else (a, x) :: Memory.erase rest i

/-- Stores a byte at an index; 0x00, which an unlisted index reads as, is not listed. -/
def Memory.write (m : Memory) (i : Nat) (v : Byte) : Memory :=
  if v = 0x00 then Memory.erase m i else Memory.insert m i v

/-- Every listed index is above `lo`, they rise strictly, and none is listed with 0x00. -/
def Memory.risesFrom : Option Nat → Memory → Bool
  | _, [] => true
  | lo, (a, v) :: rest =>
    (match lo with
      | none => true
      | some l => decide (l < a)) && v != 0x00 && Memory.risesFrom (some a) rest

/-- The canonical form: the listed indices rise strictly, and no entry repeats what an unlisted
index reads as. -/
def Memory.wf (m : Memory) : Bool := Memory.risesFrom none m

/-- Stores bytes at consecutive indices (R72, R78). -/
def Memory.writeAll : Memory → Nat → List Byte → Memory
  | m, _, [] => m
  | m, i, v :: vs => Memory.writeAll (Memory.write m i v) (i + 1) vs

/-- `buf[i]`: none outside `0 .. QUEUE_CAP - 1` and at or above `cq_tail` (R71, R73, R74). -/
def bufRead (s : State) (i : Nat) : Option Byte :=
  if i < s.cfg.queueCap ∧ i < s.cqTail.toNat then some (Memory.read s.buf i) else none

/-- `buf[cq_tail + j] <- bytes[j]` and `cq_tail <- cq_tail + n`; a write outside
`0 .. QUEUE_CAP - 1`, or past what the cursor's four bits reach, faults (R32, R72, R74, R141). -/
def bufAppend (s : State) (bytes : List Byte) : Outcome :=
  if s.cqTail.toNat + bytes.length ≤ s.cfg.queueCap ∧ s.cqTail.toNat + bytes.length < 16 then
    .next { s with
      buf := Memory.writeAll s.buf s.cqTail.toNat bytes
      cqTail := BitVec.ofNat 4 (s.cqTail.toNat + bytes.length) }
  else .fault .bufferRange

/-! ### Bus Access (43_interface.md R216) -/

/-- `writeLine(id, level)`: level 0 pulls the line low, level 1 releases it. -/
def writeLine (l : Line) (level : Level) (s : State) : State :=
  match l with
  | .clk => { s with clkLo := !level }
  | .dat => { s with datLo := !level }

/-- `delay(n)`: no effect on state. -/
def delay (_us : Nat) (s : State) : State := s

/-! ### The output sink and error recording -/

/-- `emit(ev)`: appends to the output trace; never blocks, never fails (R218, R219). -/
def emit (ev : Event) (s : State) : State := { s with out := s.out ++ [ev] }

/-- Records a framing error; the first one wins (R36, R240). -/
def recordErr (k : RxErr) (s : State) : State :=
  if s.rxErr = .none then { s with rxErr := k } else s

/-- Emits the diagnostic of the recorded framing error, if there is one (R125). -/
def emitFramingDiag (s : State) : State :=
  match s.rxErr.code with
  | none => s
  | some c => emit (.diag c) s

/-! ### The owner's results (R159, R211, R215) -/

/-- Returns a result to the owner: at once, or when the transmission the operation started ends. -/
def returnResult (r : OpResult) (s : State) : State :=
  if s.txPhase = .idle then { s with results := s.results ++ [r] }
  else { s with caller := some r }

/-- The blocked operation returns. -/
def finishCall (s : State) : State :=
  { s with results := s.results ++ s.caller.toList, caller := none }

end Sys2Proof.Machine
end

