-- ==== Sys2Proof/Machine/Transmitter.lean ====
section
/-! DEFINITION. The transmitter: the byte handshake of 41_command_queue.md R151 to R159. -/

namespace Sys2Proof.Machine

/-! ### Shared operations -/

/-- TX_BEGIN: the bus request (R151). -/
def txBegin (v : Byte) (s : State) : State :=
  { writeLine .dat true (writeLine .clk false { s with txByte := v }) with txPhase := .settle }

/-- TX_COMPLETE: the transmission ends and the blocked operation returns (R159). -/
def txComplete (s : State) : State := finishCall { s with txPhase := .idle }

/-- A transmit phase's step exists only after INIT (R262). -/
def whenInitialised (s : State) (o : Outcome) : Outcome :=
  if s.initialised then o else .refused .beforeInit

/-- The last phase of a transmission: the stop bit's high phase without a line acknowledge, or the
third acknowledge phase (R154, R158). -/
def lastPhase (s : State) : Bool :=
  match s.txPhase with
  | .whigh k => !moreBits s.cfg k && s.cfg.txLineAck == .noWait
  | .ack3 => true
  | .idle | .settle | .wlow _ | .ack1 | .ack2 => false

/-- The step after the k-th high phase (R154). -/
def afterHigh (k : Fin 10) (s : State) : State :=
  if moreBits s.cfg k then { s with txPhase := .wlow (k + 1) }
  else if s.cfg.txLineAck = .wait then { s with txPhase := .ack1 }
  else txComplete s

/-! ### Meanings -/

/-- TX_BEGIN (R151). -/
def execTxBegin (v : Byte) (s : State) : Outcome := whenReady s (.next (txBegin v s))

/-- TX_SETTLE: always proceeds; start bit, then the clock is released (R152). -/
def execTxSettle (_clk _dat : Level) (s : State) : Outcome :=
  whenInitialised s
    (if s.txPhase = .settle then
      .next { writeLine .clk true (writeLine .dat false (delay s.cfg.tSettleUs s)) with
        txPhase := .wlow 0 }
    else .refused .phaseNotCurrent)

/-- TX_WLOW(k): drives the k-th bit at a low clock, else keeps waiting (R153). -/
def execTxWlow (clk _dat : Level) (s : State) : Outcome :=
  whenInitialised s
    (match s.txPhase with
    | .wlow k =>
      if clk = false then
        .next { writeLine .dat (txbit s.cfg s.txByte k) s with txPhase := .whigh k }
      else .next s
    | _ => .refused .phaseNotCurrent)

/-- TX_WHIGH(k): goes on at a high clock, else keeps waiting (R154). -/
def execTxWhigh (clk _dat : Level) (s : State) : Outcome :=
  whenInitialised s
    (match s.txPhase with
    | .whigh k => if clk = true then .next (afterHigh k s) else .next s
    | _ => .refused .phaseNotCurrent)

/-- TX_ACK1: waits for the device to pull data low (R156). -/
def execTxAck1 (_clk dat : Level) (s : State) : Outcome :=
  whenInitialised s
    (if s.txPhase = .ack1 then
      (if dat = false then .next { s with txPhase := .ack2 } else .next s)
    else .refused .phaseNotCurrent)

/-- TX_ACK2: waits for a low clock (R157). -/
def execTxAck2 (clk _dat : Level) (s : State) : Outcome :=
  whenInitialised s
    (if s.txPhase = .ack2 then
      (if clk = false then .next { s with txPhase := .ack3 } else .next s)
    else .refused .phaseNotCurrent)

/-- TX_ACK3: waits for both lines high, then completes (R158). -/
def execTxAck3 (clk dat : Level) (s : State) : Outcome :=
  whenInitialised s
    (if s.txPhase = .ack3 then
      (if clk = true ∧ dat = true then .next (txComplete s) else .next s)
    else .refused .phaseNotCurrent)

/-- TX_COMPLETE, in a last phase (R159). -/
def execTxComplete (s : State) : Outcome :=
  whenInitialised s
    (if lastPhase s then .next (txComplete s) else .refused .phaseNotCurrent)

end Sys2Proof.Machine
end

