-- ==== Sys2Proof/Machine/CommandQueue.lean ====
section
/-! DEFINITION. The Command Queue: 41_command_queue.md R140 to R150, and the command formats of
30_encoding.md R103 and R104. -/

namespace Sys2Proof.Machine

/-! ### Shared operations -/

/-- DISCARD: the queue is emptied; the buffer keeps its stale bytes (R144). -/
def discardQueue (s : State) : State := { s with cqHead := 0, cqTail := 0, awaiting := false }

/-- SEND (R145). -/
def send (v : Byte) (s : State) : State := txBegin v { s with awaiting := true }

/-- `v <- buf[i] ; cq_head <- head ; SEND(v)` (R141, R146, R147). -/
def sendAt (i : Nat) (head : BitVec 4) (s : State) : Outcome :=
  match bufRead s i with
  | some v => .next (send v { s with cqHead := head })
  | none => .fault .bufferRange

/-- Sends the byte at `cq_head` and moves the cursor past it (R141, R146). -/
def sendNext (s : State) : Outcome := sendAt s.cqHead.toNat (s.cqHead + 1) s

/-- Takes a command into the queue, and starts its transmission where no byte awaits a reply; where
the capacity check fails nothing changes (R140, R141). -/
def acceptCommand (bytes : List Byte) (s : State) : Outcome :=
  if fits s bytes.length then
    andThen (bufAppend s bytes) fun t => if s.awaiting then .next t else sendNext t
  else .next s

/-- Records the new LED state and takes its command, where the command fits (R212). -/
def setLeds (new : BitVec 3) (s : State) : Outcome :=
  if fits s 2 then acceptCommand (ledCommand s.cfg new) { s with leds := new } else .next s

/-- REQUEST_LED without the return of its result (R212). -/
def requestLed (mask : Byte) (on : Bool) (s : State) : Outcome :=
  setLeds (ledsAfter s.leds mask on) s

/-- An acknowledge: the next byte is sent, or the queue has drained (R146). -/
def replyAck (s : State) : Outcome :=
  if s.cqHead.toNat < s.cqTail.toNat then sendNext s else .next (discardQueue s)

/-- A negative acknowledge: the byte most recently sent is sent again (R147). -/
def replyNak (s : State) : Outcome := sendAt (s.cqHead.toNat - 1) s.cqHead s

/-- A frame error on a reply (R148). -/
def replyFrameError (s : State) : State := discardQueue (emit (.diag .replyFrame) s)

/-- An unexpected reply (R149). -/
def replyOther (v : Byte) (s : State) : State :=
  discardQueue (emit (.diagByte .unexpectedReply v) s)

/-- CQ_REPLY: the reply classes in priority order (R143). -/
def cqReply (v : Byte) (e : Bool) (s : State) : Outcome :=
  if e then .next (replyFrameError s)
  else if v = s.cfg.replyAck then replyAck s
  else if v = s.cfg.replyNak then
    (if s.cqHead = 0 then .next (replyOther v s) else replyNak s)
  else .next (replyOther v s)

/-! ### Meanings -/

/-- CQ_REPLY, while a reply is awaited (R143). -/
def execCqReply (v : Byte) (e : Bool) (s : State) : Outcome :=
  whenReady s (whenSelected s.awaiting (cqReply v e s))

/-- REPLY_FRAME_ERROR (R148). -/
def execReplyFrameError (_v : Byte) (s : State) : Outcome :=
  whenReady s (whenSelected s.awaiting (.next (replyFrameError s)))

/-- REPLY_ACK (R146). -/
def execReplyAck (s : State) : Outcome := whenReady s (whenSelected s.awaiting (replyAck s))

/-- REPLY_NAK, where a byte has been sent (R147). -/
def execReplyNak (s : State) : Outcome :=
  whenReady s (whenSelected (s.awaiting && s.cqHead != 0) (replyNak s))

/-- REPLY_OTHER (R149). -/
def execReplyOther (v : Byte) (s : State) : Outcome :=
  whenReady s (whenSelected s.awaiting (.next (replyOther v s)))

/-- REPLY_NAK_GUARD: a NAK with nothing sent is an unexpected reply (R150). -/
def execReplyNakGuard (s : State) : Outcome :=
  whenReady s (whenSelected (s.awaiting && s.cqHead == 0)
    (.next (replyOther s.cfg.replyNak s)))

/-- DISCARD (R144). -/
def execDiscard (s : State) : Outcome := whenReady s (.next (discardQueue s))

/-- SEND (R145). -/
def execSend (v : Byte) (s : State) : Outcome := whenReady s (.next (send v s))

/-- CMD_SET_LEDS: the set-indicators command with this mask, as REQUEST_LED hands it to the queue
(R104, R212). -/
def execCmdSetLeds (caps num scroll : Bool) (s : State) : Outcome :=
  whenReady s (setLeds ((ledByte s.cfg caps num scroll).setWidth 3) s)

/-- CMD_ARBITRARY: a command's bytes, as ENQUEUE hands them to the queue (R103, R141, R142). -/
def execCmdArbitrary (bytes : List Byte) (s : State) : Outcome :=
  whenReady s (if bytes = [] then .refused .emptyCommand else acceptCommand bytes s)

end Sys2Proof.Machine
end

