-- ==== Sys2Proof/Machine/KeyHandler.lean ====
section
/-! DEFINITION. The Key Handler: 42_key_handler.md R180 to R188. -/

namespace Sys2Proof.Machine

/-! ### Shared operations -/

/-- The pending release is over (R180, R183). -/
def clearRelease (s : State) : State := { s with relPend := false }

/-- The break prefix (R181). -/
def keyBreak (s : State) : State := { s with relPend := true }

/-- Left shift held or released (R182, R184). -/
def setLeft (held : Bool) (s : State) : State := { s with mods := { s.mods with left := held } }

/-- Right shift held or released (R182, R184). -/
def setRight (held : Bool) (s : State) : State := { s with mods := { s.mods with right := held } }

/-- A press of caps-lock: the toggle, and the LED request whose result is dropped (R185). -/
def keyPressCaps (s : State) : Outcome :=
  requestLed s.cfg.ledCaps (!s.mods.caps) { s with mods := { s.mods with caps := !s.mods.caps } }

/-- A press of a mapped key: its character, where it has one (R188, R191). -/
def keyPressMapped (v : Byte) (s : State) : State :=
  let x := keymapAt s.cfg v
  if x.regular = 0 ∧ x.shifted = 0 then s
  else
    let c := selectedChar s.mods x
    if c = 0 then s else emit (.emit c) s

/-- KH_DECODED: the key classes in the order R186 tests them. With `MAP_LIMIT` above 127 the codes
up to it are mapped ones (DESIGN CHOICE, log entry 23). -/
def khDecoded (v : Byte) (e : Bool) (s : State) : Outcome :=
  if e then .next (clearRelease s)
  else if v = s.cfg.scBreak then .next (keyBreak s)
  else if s.relPend then
    (if isShift s.cfg v then
      (if v = s.cfg.scLshift then .next (setLeft false (clearRelease s))
      else .next (setRight false (clearRelease s)))
    else .next (clearRelease s))
  else if isShift s.cfg v then
    (if v = s.cfg.scLshift then .next (setLeft true s) else .next (setRight true s))
  else if v = s.cfg.scCaps then keyPressCaps s
  else if s.cfg.mapLimit < v.toNat then .next s
  else .next (keyPressMapped v s)

/-- A key row's step exists only in key context, with the release flag its word says (R98, R100). -/
def whenKey (s : State) (r : Bool) (o : Outcome) : Outcome :=
  whenReady s (whenSelected (!s.awaiting && s.relPend == r) o)

/-! ### Meanings -/

/-- KH_DECODED, while no reply is awaited (R186). -/
def execKhDecoded (v : Byte) (e : Bool) (s : State) : Outcome :=
  whenReady s (whenSelected (!s.awaiting) (khDecoded v e s))

/-- KEY_ERROR (R180). -/
def execKeyError (r : Bool) (_v : Byte) (s : State) : Outcome :=
  whenKey s r (.next (clearRelease s))

/-- KEY_BREAK (R181). -/
def execKeyBreak (r : Bool) (s : State) : Outcome := whenKey s r (.next (keyBreak s))

/-- KEY_RELEASE_SHIFT, left (R182). -/
def execKeyReleaseShiftL (s : State) : Outcome :=
  whenKey s true (.next (setLeft false (clearRelease s)))

/-- KEY_RELEASE_SHIFT, right (R182). -/
def execKeyReleaseShiftR (s : State) : Outcome :=
  whenKey s true (.next (setRight false (clearRelease s)))

/-- KEY_RELEASE_OTHER (R183). -/
def execKeyReleaseOther (_v : Byte) (s : State) : Outcome :=
  whenKey s true (.next (clearRelease s))

/-- KEY_PRESS_SHIFT, left (R184). -/
def execKeyPressShiftL (s : State) : Outcome := whenKey s false (.next (setLeft true s))

/-- KEY_PRESS_SHIFT, right (R184). -/
def execKeyPressShiftR (s : State) : Outcome := whenKey s false (.next (setRight true s))

/-- KEY_PRESS_CAPS (R185). -/
def execKeyPressCaps (s : State) : Outcome := whenKey s false (keyPressCaps s)

/-- KEY_PRESS_HIGH: nothing happens (R187). -/
def execKeyPressHigh (_v : Byte) (s : State) : Outcome := whenKey s false (.next s)

/-- KEY_PRESS_MAPPED (R188). -/
def execKeyPressMapped (v : Byte) (s : State) : Outcome :=
  whenKey s false (.next (keyPressMapped v s))

end Sys2Proof.Machine
end

