-- ==== Sys2Proof/Machine/Receiver.lean ====
section
/-! DEFINITION. The Frame Receiver: 40_receiver.md R120 to R126, and the receipt of a whole frame
(30_encoding.md R91, R108). -/

namespace Sys2Proof.Machine

/-! ### Shared operations -/

/-- The start bit f0 (R122). -/
def rxStart (b : Level) (s : State) : State :=
  { (if b then recordErr .start s else s) with rxCount := 0, rxAcc := 0x00, rxState := .data }

/-- A data bit (R123). A count of `DATA_BITS` or more is no state of this step
(R34, R237). -/
def rxData (b : Level) (s : State) : Outcome :=
  if s.rxCount.toNat < s.cfg.dataBits then
    .next { s with
      rxAcc := s.rxAcc ||| bitAt b s.rxCount.toNat
      rxCount := s.rxCount + 1
      rxState := if s.rxCount.toNat + 1 = s.cfg.dataBits then .parityBit else s.rxState }
  else .fault .rxCountRange

/-- The parity bit f9 (R124). -/
def rxParity (b : Level) (s : State) : State :=
  { (if b = oddpar s.rxAcc then s else recordErr .parity s) with rxState := .stopBit }

/-- The receiver's own reset at the end of a frame (R125). -/
def rxReset (s : State) : State :=
  { s with rxState := .idle, rxCount := 0, rxAcc := 0x00, rxErr := .none }

/-- DELIVER: exactly one consumer gets the frame (R126). -/
def deliver (v : Byte) (e : Bool) (s : State) : Outcome :=
  if s.awaiting then cqReply v e s else khDecoded v e s

/-- The end of a frame: the diagnostic of its error, delivery, reset (R125). -/
def completeFrame (s : State) : Outcome :=
  andThen (deliver s.rxAcc (hasError s) (emitFramingDiag s)) fun t => .next (rxReset t)

/-- The stop bit f10 (R125). -/
def rxStop (b : Level) (s : State) : Outcome :=
  completeFrame (if b then s else recordErr .stop s)

/-- OBSERVE_BIT: dispatch on the receive state (R121). -/
def observeBit (b : Level) (s : State) : Outcome :=
  match s.rxState with
  | .idle => .next (rxStart b s)
  | .data => rxData b s
  | .parityBit => .next (rxParity b s)
  | .stopBit => rxStop b s

/-- STEP: one poll; a falling edge makes the receiver observe the data level (R120). -/
def poll (clk dat : Level) (s : State) : Outcome :=
  if edge s clk then observeBit dat { s with prevClk := clk } else .next { s with prevClk := clk }

/-- A run of polls. Where one of them starts a transmission, the owner is blocked and the polls
after it stay to come (R56, R131, R211). -/
def polls : List (Level × Level) → State → Outcome
  | [], s => .next s
  | p :: ps, s =>
    if s.txPhase = .idle then andThen (poll p.1 p.2 s) (polls ps)
    else .next { s with inputs := (p :: ps).map (fun q => .step q.1 q.2) ++ s.inputs }

/-! ### Meanings -/

/-- STEP (R120). -/
def execStep (clk dat : Level) (s : State) : Outcome := whenReady s (poll clk dat s)

/-- OBSERVE_BIT (R121). -/
def execObserveBit (b : Level) (s : State) : Outcome := whenReady s (observeBit b s)

/-- RX_START (R122). -/
def execRxStart (b : Level) (s : State) : Outcome :=
  whenReady s (whenSelected (s.rxState == .idle) (.next (rxStart b s)))

/-- RX_DATA (R123). -/
def execRxData (b : Level) (s : State) : Outcome :=
  whenReady s (whenSelected (s.rxState == .data) (rxData b s))

/-- RX_PARITY (R124). -/
def execRxParity (b : Level) (s : State) : Outcome :=
  whenReady s (whenSelected (s.rxState == .parityBit) (.next (rxParity b s)))

/-- RX_STOP (R125). -/
def execRxStop (b : Level) (s : State) : Outcome :=
  whenReady s (whenSelected (s.rxState == .stopBit) (rxStop b s))

/-- DELIVER (R126). -/
def execDeliver (v : Byte) (e : Bool) (s : State) : Outcome := whenReady s (deliver v e s)

/-- FRAME: the 22 polls that present the frame's eleven bits, f0 first (R91, R108, R129). -/
def execFrame (start : Level) (d : Byte) (p stop : Level) (s : State) : Outcome :=
  whenReady s (polls (framePolls s.cfg start d p stop) s)

end Sys2Proof.Machine
end

