-- ==== Sys2Proof/Machine/Interface.lean ====
section
/-! DEFINITION. The owner operations INIT, REQUEST_LED and ENQUEUE: 43_interface.md R210 to R215,
41_command_queue.md R140 to R142. STEP stands in Receiver.lean. -/

namespace Sys2Proof.Machine

/-! ### Shared operations -/

/-- The free values of the buffer after INIT, from the `n`-th on, one for each index (U2, D41). -/
def unspecifiedBuf (c : Config) (n : Nat) : Memory :=
  Memory.writeAll [] 0 ((List.range c.queueCap).map fun j => Config.unspecifiedByte (n + j))

/-- INIT's effect: every element at its reset value, `tx_byte` and every byte of the buffer a free
value; neither trace is cleared (R210, R50, U2). -/
def initState (s : State) : State :=
  { State.resetWith s.cfg with
    txByte := Config.unspecifiedByte s.freeIdx
    buf := unspecifiedBuf s.cfg (s.freeIdx + 1)
    freeIdx := s.freeIdx + 1 + s.cfg.queueCap
    out := s.out
    results := s.results
    inputs := s.inputs }

/-- ENQUEUE's effect with its result (R140, R141). -/
def enqueue (bytes : List Byte) (s : State) : Outcome :=
  andThen (acceptCommand bytes s) fun t => .next (returnResult (resultFor s bytes.length) t)

/-! ### Meanings -/

/-- INIT: not while busy (R210, R211). Before the first INIT nothing can be busy (R262). -/
def execInit (s : State) : Outcome :=
  if s.initialised = true ∧ s.txPhase ≠ .idle then .refused .busy else .next (initState s)

/-- REQUEST_LED (R212). -/
def execRequestLed (mask : Byte) (on : Bool) (s : State) : Outcome :=
  whenReady s
    (andThen (requestLed mask on s) fun t => .next (returnResult (resultFor s 2) t))

/-- ENQUEUE; a command of zero bytes is refused (R140, R141, R142, R214). -/
def execEnqueue (bytes : List Byte) (s : State) : Outcome :=
  whenReady s (if bytes = [] then .refused .emptyCommand else enqueue bytes s)

end Sys2Proof.Machine
end

