-- ==== Sys2Proof/Machine/Dispatch.lean ====
section
/-! DEFINITION. The dispatch: one arm per row of spec/opcode_table.json. -/

namespace Sys2Proof.Machine

def exec (i : Instr) (s : State) : Host.Outcome State Fault Refusal :=
  match i with
  | .init => Sys2Proof.Machine.execInit s
  | .step clk dat => Sys2Proof.Machine.execStep clk dat s
  | .requestLed mask on => Sys2Proof.Machine.execRequestLed mask on s
  | .enqueue bytes => Sys2Proof.Machine.execEnqueue bytes s
  | .frame start d p stop => Sys2Proof.Machine.execFrame start d p stop s
  | .rxStart b => Sys2Proof.Machine.execRxStart b s
  | .rxData b => Sys2Proof.Machine.execRxData b s
  | .rxParity b => Sys2Proof.Machine.execRxParity b s
  | .rxStop b => Sys2Proof.Machine.execRxStop b s
  | .observeBit b => Sys2Proof.Machine.execObserveBit b s
  | .deliver v e => Sys2Proof.Machine.execDeliver v e s
  | .cqReply v e => Sys2Proof.Machine.execCqReply v e s
  | .replyFrameError v => Sys2Proof.Machine.execReplyFrameError v s
  | .replyAck => Sys2Proof.Machine.execReplyAck s
  | .replyNak => Sys2Proof.Machine.execReplyNak s
  | .replyOther v => Sys2Proof.Machine.execReplyOther v s
  | .replyNakGuard => Sys2Proof.Machine.execReplyNakGuard s
  | .khDecoded v e => Sys2Proof.Machine.execKhDecoded v e s
  | .keyError r v => Sys2Proof.Machine.execKeyError r v s
  | .keyBreak r => Sys2Proof.Machine.execKeyBreak r s
  | .keyReleaseShiftL => Sys2Proof.Machine.execKeyReleaseShiftL s
  | .keyReleaseShiftR => Sys2Proof.Machine.execKeyReleaseShiftR s
  | .keyReleaseOther v => Sys2Proof.Machine.execKeyReleaseOther v s
  | .keyPressShiftL => Sys2Proof.Machine.execKeyPressShiftL s
  | .keyPressShiftR => Sys2Proof.Machine.execKeyPressShiftR s
  | .keyPressCaps => Sys2Proof.Machine.execKeyPressCaps s
  | .keyPressHigh v => Sys2Proof.Machine.execKeyPressHigh v s
  | .keyPressMapped v => Sys2Proof.Machine.execKeyPressMapped v s
  | .discard => Sys2Proof.Machine.execDiscard s
  | .send v => Sys2Proof.Machine.execSend v s
  | .txBegin v => Sys2Proof.Machine.execTxBegin v s
  | .txSettle clk dat => Sys2Proof.Machine.execTxSettle clk dat s
  | .txWlow clk dat => Sys2Proof.Machine.execTxWlow clk dat s
  | .txWhigh clk dat => Sys2Proof.Machine.execTxWhigh clk dat s
  | .txAck1 clk dat => Sys2Proof.Machine.execTxAck1 clk dat s
  | .txAck2 clk dat => Sys2Proof.Machine.execTxAck2 clk dat s
  | .txAck3 clk dat => Sys2Proof.Machine.execTxAck3 clk dat s
  | .txComplete => Sys2Proof.Machine.execTxComplete s
  | .cmdSetLeds caps num scroll => Sys2Proof.Machine.execCmdSetLeds caps num scroll s
  | .cmdArbitrary bytes => Sys2Proof.Machine.execCmdArbitrary bytes s

end Sys2Proof.Machine
end

