-- ==== Sys2Proof/Machine/Fetch.lean ====
section
/-! DEFINITION. What a stimulus selects, and the situation in which the next step runs a given
instruction. The block fetches no instructions (10_state.md R31): a step takes the next stimulus. -/

namespace Sys2Proof.Machine

/-- What a stimulus runs: an owner operation, or the current transmit phase (R56, R107). -/
def fetch (s : State) : Stimulus → Except Refusal Instr
  | .init => .ok .init
  | .step clk dat => .ok (.step clk dat)
  | .led mask on => .ok (.requestLed mask on)
  | .enq bytes => .ok (.enqueue bytes)
  | .frame start d p stop => .ok (.frame start d p stop)
  | .txp clk dat =>
    match s.txPhase with
    | .idle => .error .phaseNotCurrent
    | .settle => .ok (.txSettle clk dat)
    | .wlow _ => .ok (.txWlow clk dat)
    | .whigh _ => .ok (.txWhigh clk dat)
    | .ack1 => .ok (.txAck1 clk dat)
    | .ack2 => .ok (.txAck2 clk dat)
    | .ack3 => .ok (.txAck3 clk dat)

/-- Puts a stimulus first. -/
def present (x : Stimulus) (s : State) : State := { s with inputs := x :: s.inputs }

/-- The block idle after INIT, so that an owner operation can begin. -/
def madeReady (s : State) : State :=
  { s with initialised := true, txPhase := .idle, clkLo := false, datLo := false, caller := none }

/-- The receiver at a point of a frame, with the poll that observes the bit `b` next. -/
def atReceive (x : RxState) (count : BitVec 4) (b : Level) (s : State) : State :=
  present (.step false b)
    { madeReady s with
      rxState := x, rxCount := count, rxAcc := 0x00, rxErr := .none, prevClk := true }

/-- The last bit of a frame of the byte `v` next, with a wrong stop bit where `e` is set. -/
def atDelivery (v : Byte) (e : Bool) (s : State) : State :=
  { atReceive .stopBit 8 (!e) s with rxAcc := v }

/-- A reply delivered next, to the byte at index 0. -/
def atReply (v : Byte) (e : Bool) (s : State) : State :=
  { atDelivery v e s with awaiting := true, cqHead := 1, cqTail := 1 }

/-- A key event delivered next. -/
def atKey (r : Bool) (v : Byte) (e : Bool) (s : State) : State :=
  { atDelivery v e s with awaiting := false, cqHead := 0, cqTail := 0, relPend := r }

/-- A transmit phase's poll next. -/
def atPhase (p : TxPhase) (clk dat : Level) (s : State) : State :=
  present (.txp clk dat) { s with initialised := true, txPhase := p }

/-- The situation in which the next step runs an instruction: its stimulus first, and for a row that
its dispatch selects, the state that selects it. Log entry 13. -/
def situate (i : Instr) (s : State) : State :=
  match i with
  | .init => present .init (madeReady s)
  | .step clk dat => present (.step clk dat) (madeReady s)
  | .requestLed mask on => present (.led mask on) (madeReady s)
  | .enqueue bytes => present (.enq bytes) (madeReady s)
  | .frame start d p stop => present (.frame start d p stop) (madeReady s)
  | .rxStart b => atReceive .idle 0 b s
  | .rxData b => atReceive .data 0 b s
  | .rxParity b => atReceive .parityBit 8 b s
  | .rxStop b => atReceive .stopBit 8 b s
  | .observeBit b => atReceive .idle 0 b s
  | .deliver v e => atDelivery v e s
  | .cqReply v e => atReply v e s
  | .replyFrameError v => atReply v true s
  | .replyAck => atReply s.cfg.replyAck false s
  | .replyNak => atReply s.cfg.replyNak false s
  | .replyOther v => atReply v false s
  | .replyNakGuard => { atReply s.cfg.replyNak false s with cqHead := 0, cqTail := 0 }
  | .khDecoded v e => atKey s.relPend v e s
  | .keyError r v => atKey r v true s
  | .keyBreak r => atKey r s.cfg.scBreak false s
  | .keyReleaseShiftL => atKey true s.cfg.scLshift false s
  | .keyReleaseShiftR => atKey true s.cfg.scRshift false s
  | .keyReleaseOther v => atKey true v false s
  | .keyPressShiftL => atKey false s.cfg.scLshift false s
  | .keyPressShiftR => atKey false s.cfg.scRshift false s
  | .keyPressCaps => atKey false s.cfg.scCaps false s
  | .keyPressHigh v => atKey false v false s
  | .keyPressMapped v => atKey false v false s
  | .discard => atReply 0x00 true s
  | .send v => present (.enq [v]) { madeReady s with awaiting := false, cqHead := 0, cqTail := 0 }
  | .txBegin v => present (.enq [v]) { madeReady s with awaiting := false, cqHead := 0, cqTail := 0 }
  | .txSettle clk dat => atPhase .settle clk dat s
  | .txWlow clk dat => atPhase (.wlow 0) clk dat s
  | .txWhigh clk dat => atPhase (.whigh 0) clk dat s
  | .txAck1 clk dat => atPhase .ack1 clk dat s
  | .txAck2 clk dat => atPhase .ack2 clk dat s
  | .txAck3 clk dat => atPhase .ack3 clk dat s
  | .txComplete => atPhase .ack3 true true s
  | .cmdSetLeds caps num scroll =>
    present (.led (ledByte s.cfg caps num scroll) true) { madeReady s with leds := 0 }
  | .cmdArbitrary bytes => present (.enq bytes) (madeReady s)

end Sys2Proof.Machine
end

