-- ==== Sys2Proof/Machine/Step.lean ====
section
/-! DEFINITION. One step: the next stimulus is taken and what it selects is run. With no stimulus
the block is inert and keeps its state (60_exceptions.md R253). -/

namespace Sys2Proof.Machine

/-- One atomic step (00_scope.md R17). -/
def step (s : State) : Host.Outcome State Fault Refusal :=
  match s.inputs with
  | [] => .next s
  | x :: rest =>
    match fetch s x with
    | .ok i => exec i { s with inputs := rest }
    | .error r => .refused r

/-- The state in which the very next step runs the instruction a table word holds. -/
def State.withFetchWord (s : State) (nbits w : Nat) : State :=
  match decodeTableWord nbits w with
  | some i => situate i s
  | none => s

end Sys2Proof.Machine
end

