-- ==== Sys2Proof/Machine/Script.lean ====
section
/-! DEFINITION. The script's pseudo-operations, each with its expansion into stimuli (30_encoding.md
R107, R108). -/

namespace Sys2Proof.Machine

/-- `RXBIT d` (R108). -/
def rxBit (d : Level) : List Stimulus := [.step true d, .step false d]

/-- `RXFRAME* f0..f10` (R108). -/
def rxFrameStar (c : Config) (start : Level) (d : Byte) (p stop : Level) : List Stimulus :=
  (wireBits c start d p stop).flatMap rxBit

/-- `RXFRAME B` (R108). -/
def rxFrame (c : Config) (v : Byte) : List Stimulus := rxFrameStar c false v (oddpar v) true

/-- The device's side of the clock phases: a low poll and a high one for each, with any two data
levels (R108). -/
def devClocks : List (Level × Level) → List Stimulus
  | [] => []
  | (x, y) :: rest => .txp false x :: .txp true y :: devClocks rest

/-- `DEVRX` with the data levels of its ten clock phases: 21 polls, or 24 with a line acknowledge
(R108). -/
def devRx (ack : TxLineAck) (xs : List (Level × Level)) : List Stimulus :=
  .txp false false :: devClocks xs ++
    (match ack with
    | .noWait => []
    | .wait => [.txp true false, .txp false false, .txp true true])

end Sys2Proof.Machine
end

