-- ==== Sys2Proof/Safety.lean ====
section
/-! DEFINITION. What claims about the block are stated in: when it is ready, its invariants (R45,
R53, R54, with what the rules add to them), and which parts of the state two states share. -/

namespace Sys2Proof.Machine

/-- The outcome's next state, where it answers one. -/
def nextOf : Host.Outcome State Fault Refusal → Option State
  | .next s => some s
  | .fault _ => none
  | .refused _ => none

/-- The outcome's next state changed by `f`; a stop stays as it is. -/
def mapNext (f : State → State) :
    Host.Outcome State Fault Refusal → Host.Outcome State Fault Refusal
  | .next s => .next (f s)
  | .fault r => .fault r
  | .refused r => .refused r

/-- INIT has been called and no transmission is in progress (R56, R262). -/
abbrev Ready (s : State) : Prop := s.initialised = true ∧ s.txPhase = .idle

/-- INIT has been called and a transmission is in progress (R56). -/
abbrev Transmitting (s : State) : Prop := s.initialised = true ∧ s.txPhase ≠ .idle

/-- A transmit phase's row, or TX_COMPLETE. -/
def isTransmitRow : Instr → Bool
  | .txSettle _ _ | .txWlow _ _ | .txWhigh _ _ | .txAck1 _ _ | .txAck2 _ _ | .txAck3 _ _
  | .txComplete => true
  | .init | .step _ _ | .requestLed _ _ | .enqueue _ | .frame _ _ _ _ | .rxStart _ | .rxData _
  | .rxParity _ | .rxStop _ | .observeBit _ | .deliver _ _ | .cqReply _ _ | .replyFrameError _
  | .replyAck | .replyNak | .replyOther _ | .replyNakGuard | .khDecoded _ _ | .keyError _ _
  | .keyBreak _ | .keyReleaseShiftL | .keyReleaseShiftR | .keyReleaseOther _ | .keyPressShiftL
  | .keyPressShiftR | .keyPressCaps | .keyPressHigh _ | .keyPressMapped _ | .discard | .send _
  | .txBegin _ | .cmdSetLeds _ _ _ | .cmdArbitrary _ => false

/-- A row that runs the receiver: it observes bits or is the owner's INIT. -/
def runsReceiver : Instr → Bool
  | .init | .step _ _ | .frame _ _ _ _ | .rxStart _ | .rxData _ | .rxParity _ | .rxStop _
  | .observeBit _ => true
  | .requestLed _ _ | .enqueue _ | .deliver _ _ | .cqReply _ _ | .replyFrameError _ | .replyAck
  | .replyNak | .replyOther _ | .replyNakGuard | .khDecoded _ _ | .keyError _ _ | .keyBreak _
  | .keyReleaseShiftL | .keyReleaseShiftR | .keyReleaseOther _ | .keyPressShiftL
  | .keyPressShiftR | .keyPressCaps | .keyPressHigh _ | .keyPressMapped _ | .discard | .send _
  | .txBegin _ | .txSettle _ _ | .txWlow _ _ | .txWhigh _ _ | .txAck1 _ _ | .txAck2 _ _
  | .txAck3 _ _ | .txComplete | .cmdSetLeds _ _ _ | .cmdArbitrary _ => false

/-- A row that may run KEY_PRESS_MAPPED within one instruction: that row itself, or one that
delivers a byte (R120, R121, R125, R126, R186). -/
def runsMappedPress : Instr → Bool
  | .keyPressMapped _ | .khDecoded _ _ | .deliver _ _ | .rxStop _ | .observeBit _ | .step _ _
  | .frame _ _ _ _ => true
  | .init | .requestLed _ _ | .enqueue _ | .rxStart _ | .rxData _ | .rxParity _ | .cqReply _ _
  | .replyFrameError _ | .replyAck | .replyNak | .replyOther _ | .replyNakGuard | .keyError _ _
  | .keyBreak _ | .keyReleaseShiftL | .keyReleaseShiftR | .keyReleaseOther _ | .keyPressShiftL
  | .keyPressShiftR | .keyPressCaps | .keyPressHigh _ | .discard | .send _ | .txBegin _
  | .txSettle _ _ | .txWlow _ _ | .txWhigh _ _ | .txAck1 _ _ | .txAck2 _ _ | .txAck3 _ _
  | .txComplete | .cmdSetLeds _ _ _ | .cmdArbitrary _ => false

/-- ENQUEUE or REQUEST_LED: the two operations that return a result (R215). -/
def returnsResult : Instr → Bool
  | .enqueue _ | .requestLed _ _ => true
  | .init | .step _ _ | .frame _ _ _ _ | .rxStart _ | .rxData _ | .rxParity _ | .rxStop _
  | .observeBit _ | .deliver _ _ | .cqReply _ _ | .replyFrameError _ | .replyAck | .replyNak
  | .replyOther _ | .replyNakGuard | .khDecoded _ _ | .keyError _ _ | .keyBreak _
  | .keyReleaseShiftL | .keyReleaseShiftR | .keyReleaseOther _ | .keyPressShiftL
  | .keyPressShiftR | .keyPressCaps | .keyPressHigh _ | .keyPressMapped _ | .discard | .send _
  | .txBegin _ | .txSettle _ _ | .txWlow _ _ | .txWhigh _ _ | .txAck1 _ _ | .txAck2 _ _
  | .txAck3 _ _ | .txComplete | .cmdSetLeds _ _ _ | .cmdArbitrary _ => false

/-- The transmit row of a phase, for some line levels; TX_COMPLETE in the last one (R56). -/
def isRowOfPhase (s : State) (i : Instr) : Prop :=
  ∃ clk dat, fetch s (.txp clk dat) = .ok i ∨ i = .txComplete ∧ lastPhase s = true

/-- The drivers a transmission presents in each phase, `(clk_lo, dat_lo)`: the bus request, the
start bit, and from each low clock phase on the bit of that phase (R164). -/
def drivers (c : Config) (v : Byte) : TxPhase → Bool × Bool
  | .idle => (false, false)
  | .settle => (true, false)
  | .wlow k => (false, if k.val = 0 then true else !txbit c v (k - 1))
  | .whigh k => (false, !txbit c v k)
  | .ack1 => (false, false)
  | .ack2 => (false, false)
  | .ack3 => (false, false)

/-- The line condition on which a phase goes on: none in TX_SETTLE, a clock level in the low and
high phases and in TX_ACK2, the data level in TX_ACK1, both in TX_ACK3 (R152 to R158). -/
def lineCondition : TxPhase → Level → Level → Bool
  | .idle, _, _ => false
  | .settle, _, _ => true
  | .wlow _, clk, _ => !clk
  | .whigh _, clk, _ => clk
  | .ack1, _, dat => !dat
  | .ack2, clk, _ => !clk
  | .ack3, clk, dat => clk && dat

/-! ### Invariants -/

/-- The receiver's invariant (R53). -/
abbrev RxOk (s : State) : Prop :=
  (s.rxState = .idle → s.rxCount = 0 ∧ s.rxAcc = 0x00 ∧ s.rxErr = .none) ∧
  (s.rxState = .data →
    s.rxCount.toNat < s.cfg.dataBits ∧ s.rxAcc.toNat < 2 ^ s.rxCount.toNat) ∧
  (s.rxState = .parityBit ∨ s.rxState = .stopBit → s.rxCount.toNat = s.cfg.dataBits)

/-- The queue's invariant (R45). -/
abbrev QueueOk (s : State) : Prop :=
  s.cqHead.toNat ≤ s.cqTail.toNat ∧ s.cqTail.toNat ≤ s.cfg.queueCap ∧
  (s.awaiting = false → s.cqHead = 0 ∧ s.cqTail = 0) ∧
  (s.awaiting = true → 1 ≤ s.cqHead.toNat)

/-- The buffer is in canonical form within `0 .. QUEUE_CAP - 1` (R71, R72). -/
abbrev BufOk (s : State) : Prop :=
  Memory.wf s.buf = true ∧ ∀ c ∈ s.buf, c.1 < s.cfg.queueCap

/-- The transmitter's invariant: the drivers are those of its phase (R54, R164), a byte in
transmission awaits its reply (R145), the acknowledge phases occur only with `Wait` (R38), and only
a transmission in progress blocks a caller (R211). -/
abbrev TxOk (s : State) : Prop :=
  (s.clkLo, s.datLo) = drivers s.cfg s.txByte s.txPhase ∧
  (s.txPhase ≠ .idle → s.awaiting = true) ∧
  (s.txPhase = .ack1 ∨ s.txPhase = .ack2 ∨ s.txPhase = .ack3 → s.cfg.txLineAck = .wait) ∧
  (s.txPhase = .idle → s.caller = none)

/-- Every character emitted is non-zero (R218). -/
abbrev OutOk (s : State) : Prop := ∀ ev ∈ s.out, ev ≠ .emit 0x00

/-- What holds before INIT as well: the emitted characters, and a configuration of the sizes that
the rules hold (log entry 15). -/
abbrev RunOk (s : State) : Prop := OutOk s ∧ s.cfg.sized = true

/-- The block's invariant: nothing more than `RunOk` is said of the state before INIT (R262). -/
abbrev BlockInv (s : State) : Prop :=
  RunOk s ∧ (s.initialised = true → RxOk s ∧ QueueOk s ∧ BufOk s ∧ TxOk s)

/-! ### Parts of the state -/

/-- The receiver's registers and the edge detector (R57). -/
abbrev SameReceiver (s t : State) : Prop :=
  t.rxState = s.rxState ∧ t.rxCount = s.rxCount ∧ t.rxAcc = s.rxAcc ∧ t.rxErr = s.rxErr ∧
  t.prevClk = s.prevClk

/-- The Key Handler's registers (R46, R47). -/
abbrev SameKeys (s t : State) : Prop := t.mods = s.mods ∧ t.relPend = s.relPend

/-- What belongs to the run: the configuration, the stimuli to come, the free values, INIT done. -/
abbrev SameRun (s t : State) : Prop :=
  t.cfg = s.cfg ∧ t.inputs = s.inputs ∧ t.freeIdx = s.freeIdx ∧ t.initialised = s.initialised

/-- The transmitter: phase, byte, drivers, blocked caller (R38 to R40). -/
abbrev SameTransmitter (s t : State) : Prop :=
  t.txPhase = s.txPhase ∧ t.txByte = s.txByte ∧ t.clkLo = s.clkLo ∧ t.datLo = s.datLo ∧
  t.caller = s.caller

/-- The bus request for the byte `v`, with the caller that waits for it (R145, R151). -/
abbrev BusRequest (v : Byte) (caller : Option OpResult) (t : State) : Prop :=
  t.awaiting = true ∧ t.txPhase = .settle ∧ t.txByte = v ∧ t.clkLo = true ∧ t.datLo = false ∧
  t.caller = caller

/-- The buffer after `bytes` are stored from index `i` on: those indices hold them in order, and
every other index reads as before (R72, R78). -/
def Stored (i : Nat) (bytes : List Byte) (s t : State) : Prop :=
  ∀ a, if i ≤ a ∧ a < i + bytes.length then bytes[a - i]? = some (Memory.read t.buf a)
    else Memory.read t.buf a = Memory.read s.buf a

/-- The first failing check of a frame in wire order: start, parity, stop (R130). -/
def frameError (start : Level) (d : Byte) (p stop : Level) : RxErr :=
  if start = true then .start
  else if p ≠ oddpar d then .parity
  else if stop = false then .stop
  else .none

/-- The diagnostics a frame's error adds to the trace (R230). -/
def framingDiags : RxErr → List Event
  | .none => []
  | .start => [.diag .startBit]
  | .parity => [.diag .parity]
  | .stop => [.diag .stopBit]

end Sys2Proof.Machine
end

