-- ==== Sys2Proof/Certificates/Slice0/Obligations.lean ====
section
/-! DEFINITION. The statements for the provers, one per claim of the spec's numbered rules. A
statement that answers a next state as a record update says, with the update, what the row leaves
unchanged. -/

open Sys2Proof Sys2Proof.Machine

/-! ### Reset, INIT, and when a row has a step -/

/-- R260: the reset state holds the reset value of every element the spec gives one. -/
def Obligations.ResetHoldsTheResetValues : Prop :=
  (∃ c, State.reset = State.resetWith c) ∧
  ∀ c, let s := State.resetWith c
    s.rxState = .idle ∧ s.rxCount = 0 ∧ s.rxAcc = 0x00 ∧ s.rxErr = .none ∧ s.prevClk = true ∧
    s.txPhase = .idle ∧ s.clkLo = false ∧ s.datLo = false ∧ s.cqHead = 0 ∧ s.cqTail = 0 ∧
    s.awaiting = false ∧ s.mods = ⟨false, false, false⟩ ∧ s.relPend = false ∧ s.leds = 0 ∧
    s.out = [] ∧ s.cfg = c

/-- R210, R50: INIT completes whenever the block is not busy, gives every element its reset value,
and does not clear the trace. Nothing is said of `tx_byte` and the buffer, which the spec leaves
unspecified. What INIT leaves the model's own fields at (`initialised`, `results`, `caller`,
`inputs`, `cfg`) is the model's choice (log entries 1, 2, 5 and 7). -/
def Obligations.InitEstablishesResetState : Prop :=
  ∀ s : State, s.txPhase = .idle →
    ∃ t, exec .init s = .next t ∧
      t.clkLo = false ∧ t.datLo = false ∧
      t.rxState = .idle ∧ t.rxCount = 0 ∧ t.rxAcc = 0x00 ∧ t.rxErr = .none ∧ t.prevClk = true ∧
      t.txPhase = .idle ∧ t.cqHead = 0 ∧ t.cqTail = 0 ∧ t.awaiting = false ∧
      t.mods = ⟨false, false, false⟩ ∧ t.relPend = false ∧ t.leds = 0 ∧ t.out = s.out ∧
      t.initialised = true ∧ t.results = s.results ∧ t.caller = none ∧
      t.inputs = s.inputs ∧ t.cfg = s.cfg

/-- R262: the first INIT runs in every state, and the block is ready after it. That nothing in the
state before it holds INIT up is the model's choice (log entry 9). -/
def Obligations.FirstInitIsAccepted : Prop :=
  ∀ s : State, s.initialised = false →
    ∃ t, exec .init s = .next t ∧ Ready t ∧ (RunOk s → BlockInv t)

/-- R262, U1: before the first INIT every other row is refused, the internal ones with the owner's
(log entry 10). -/
def Obligations.NothingRunsBeforeInit : Prop :=
  ∀ (s : State) (i : Instr), s.initialised = false → i ≠ .init →
    exec i s = .refused .beforeInit

/-- R56: while a transmission is in progress every row but a transmit phase's is refused, only the
current phase's row can run, and it does run at any line levels. -/
def Obligations.BusyRunsOnlyTheCurrentPhase : Prop :=
  ∀ s : State, Transmitting s →
    (∀ i, isTransmitRow i = false → exec i s = .refused .busy) ∧
    (∀ i t, exec i s = .next t → isRowOfPhase s i) ∧
    (∀ clk dat, ∃ i t, fetch s (.txp clk dat) = .ok i ∧ exec i s = .next t)

/-- R17, R253: a step takes the next stimulus and runs what it selects; without one the block keeps
its state. -/
def Obligations.StepRunsTheNextStimulus : Prop :=
  (∀ s : State, s.inputs = [] → step s = .next s) ∧
  ∀ (s : State) (x : Stimulus) (rest : List Stimulus), s.inputs = x :: rest →
    (∀ i, fetch s x = .ok i → step s = exec i { s with inputs := rest }) ∧
    (∀ r, fetch s x = .error r → step s = .refused r)

/-- R107, R108: an owner operation's stimulus selects that operation and a whole frame FRAME; a
transmit poll selects the current phase's row, and has no step while no transmission is in
progress. -/
def Obligations.StimulusSelectsItsRow : Prop :=
  ∀ s : State,
    fetch s .init = .ok .init ∧
    (∀ c d, fetch s (.step c d) = .ok (.step c d)) ∧
    (∀ m on, fetch s (.led m on) = .ok (.requestLed m on)) ∧
    (∀ bs, fetch s (.enq bs) = .ok (.enqueue bs)) ∧
    (∀ a v p b, fetch s (.frame a v p b) = .ok (.frame a v p b)) ∧
    ∀ c d,
      (s.txPhase = .idle → fetch s (.txp c d) = .error .phaseNotCurrent) ∧
      (s.txPhase = .settle → fetch s (.txp c d) = .ok (.txSettle c d)) ∧
      (∀ k, s.txPhase = .wlow k → fetch s (.txp c d) = .ok (.txWlow c d)) ∧
      (∀ k, s.txPhase = .whigh k → fetch s (.txp c d) = .ok (.txWhigh c d)) ∧
      (s.txPhase = .ack1 → fetch s (.txp c d) = .ok (.txAck1 c d)) ∧
      (s.txPhase = .ack2 → fetch s (.txp c d) = .ok (.txAck2 c d)) ∧
      (s.txPhase = .ack3 → fetch s (.txp c d) = .ok (.txAck3 c d))

/-! ### The Frame Receiver -/

/-- R120: a poll without a falling edge writes `prev_clk` only; a falling edge makes the receiver
observe the data level of the same poll. -/
def Obligations.PollObservesFallingEdges : Prop :=
  ∀ (s : State) (c d : Level), Ready s →
    (¬(s.prevClk = true ∧ c = false) → exec (.step c d) s = .next { s with prevClk := c }) ∧
    (s.prevClk = true ∧ c = false →
      exec (.step c d) s = exec (.observeBit d) { s with prevClk := c })

/-- R121: the observed bit is handled by the row of the receive state, which is also the row that
the state's code and the bit decode to. -/
def Obligations.ObservedBitSelectsReceiveRow : Prop :=
  ∀ (s : State) (b : Level), Ready s →
    (s.rxState = .idle → exec (.observeBit b) s = exec (.rxStart b) s) ∧
    (s.rxState = .data → exec (.observeBit b) s = exec (.rxData b) s) ∧
    (s.rxState = .parityBit → exec (.observeBit b) s = exec (.rxParity b) s) ∧
    (s.rxState = .stopBit → exec (.observeBit b) s = exec (.rxStop b) s) ∧
    exec (.observeBit b) s = exec (decodeRx (rxWord s.rxState.code.1 s.rxState.code.2 b)) s

/-- R122: RX_START. -/
def Obligations.StartBitOpensFrame : Prop :=
  ∀ (s : State) (b : Level), Ready s → s.rxState = .idle →
    exec (.rxStart b) s = .next { s with
      rxErr := if b = true ∧ s.rxErr = .none then .start else s.rxErr
      rxCount := 0
      rxAcc := 0x00
      rxState := .data }

/-- R123: RX_DATA. -/
def Obligations.DataBitEntersAccumulator : Prop :=
  ∀ (s : State) (b : Level), Ready s → s.rxState = .data →
    s.rxCount.toNat < s.cfg.dataBits →
    exec (.rxData b) s = .next { s with
      rxAcc := s.rxAcc ||| ((if b = true then 0x01 else 0x00 : Byte) <<< s.rxCount.toNat)
      rxCount := s.rxCount + 1
      rxState := if s.rxCount.toNat + 1 = s.cfg.dataBits then .parityBit else .data }

/-- R124: RX_PARITY. -/
def Obligations.ParityBitIsChecked : Prop :=
  ∀ (s : State) (b : Level), Ready s → s.rxState = .parityBit →
    exec (.rxParity b) s = .next { s with
      rxErr := if b ≠ oddpar s.rxAcc ∧ s.rxErr = .none then .parity else s.rxErr
      rxState := .stopBit }

/-- R125: RX_STOP records a wrong stop bit where no error came before, emits the error's diagnostic,
delivers the byte with its has-error flag, and resets the receiver; in every state that meets the
invariant it completes. -/
def Obligations.StopBitDeliversAndResets : Prop :=
  ∀ (s : State) (b : Level), Ready s → s.rxState = .stopBit →
    let k : RxErr := if b = false ∧ s.rxErr = .none then .stop else s.rxErr
    (∀ u, exec (.deliver s.rxAcc (decide (k ≠ .none)))
          { s with rxErr := k, out := s.out ++ framingDiags k } = .next u →
        exec (.rxStop b) s =
          .next { u with rxState := .idle, rxCount := 0, rxAcc := 0x00, rxErr := .none }) ∧
    (BlockInv s → ∃ t, exec (.rxStop b) s = .next t ∧ t.rxState = .idle ∧ t.rxCount = 0 ∧
      t.rxAcc = 0x00 ∧ t.rxErr = .none ∧ t.prevClk = s.prevClk)

/-- R126: a completed frame goes to the Command Queue while a reply is awaited, else to the Key
Handler. -/
def Obligations.DeliveryIsRouted : Prop :=
  ∀ (s : State) (v : Byte) (e : Bool), Ready s →
    exec (.deliver v e) s =
      (if s.awaiting = true then exec (.cqReply v e) s else exec (.khDecoded v e) s)

/-- R126, R57: in every state that meets the invariant a delivery completes, in the consumer the
flag `awaiting` selects, and leaves the receiver alone. -/
def Obligations.DeliveryCompletes : Prop :=
  ∀ (s : State) (v : Byte) (e : Bool), Ready s → BlockInv s →
    ∃ t, exec (.deliver v e) s = .next t ∧
      (s.awaiting = true → exec (.cqReply v e) s = .next t) ∧
      (s.awaiting = false → exec (.khDecoded v e) s = .next t) ∧
      SameReceiver s t ∧ SameRun s t

/-- R127: the receive-state transition table; an observed bit always completes. -/
def Obligations.ReceiveStateTransitions : Prop :=
  ∀ (s : State) (b : Level), Ready s → BlockInv s →
    ∃ t, exec (.observeBit b) s = .next t ∧
      (s.rxState = .idle → t.rxState = .data) ∧
      (s.rxState = .data ∧ s.rxCount.toNat + 1 < s.cfg.dataBits → t.rxState = .data) ∧
      (s.rxState = .data ∧ s.rxCount.toNat + 1 = s.cfg.dataBits → t.rxState = .parityBit) ∧
      (s.rxState = .parityBit → t.rxState = .stopBit) ∧
      (s.rxState = .stopBit → t.rxState = .idle)

/-- R92, R96, R128, R130: from an idle receiver, the polls of a whole frame come to one delivery: of
the data byte whatever the error, flagged with the first failing check in wire order; in every state
that meets the invariant the frame completes. -/
def Obligations.FrameIsDeliveredWhole : Prop :=
  ∀ (s : State) (start : Level) (d : Byte) (p stop : Level), Ready s → RxOk s →
    s.cfg.sized = true → s.rxState = .idle →
    let k := frameError start d p stop
    let u : State := { s with prevClk := false, out := s.out ++ framingDiags k }
    exec (.frame start d p stop) s = exec (.deliver d (decide (k ≠ .none))) u ∧
    (BlockInv s → ∃ t, exec (.frame start d p stop) s = .next t ∧ t.rxState = .idle)

/-- R129: the frame word of a byte, received from Idle in key context, delivers that byte without
error and returns the receiver to Idle. -/
def Obligations.FrameWordRoundTrip : Prop :=
  ∀ (s : State) (v : Byte), Ready s → RxOk s → s.cfg.sized = true → s.rxState = .idle →
    s.awaiting = false →
    exec (decodeFrame (fw v)) s = exec (.khDecoded v false) { s with prevClk := false } ∧
    ∀ t, exec (decodeFrame (fw v)) s = .next t →
      t.rxState = .idle ∧ t.rxCount = 0 ∧ t.rxAcc = 0x00 ∧ t.rxErr = .none

/-! ### The Command Queue -/

/-- R140: a command that does not fit changes nothing, and its caller gets Full. -/
def Obligations.EnqueueWithoutSpaceIsFull : Prop :=
  ∀ (s : State) (bytes : List Byte), Ready s → bytes ≠ [] →
    s.cfg.queueCap < s.cqTail.toNat + bytes.length →
    exec (.enqueue bytes) s = .next { s with results := s.results ++ [.full] }

/-- R141: a command that fits is stored at the tail. While a reply is awaited that is all, and the
caller gets Ok; else the first byte's transmission begins, and the caller gets Ok at its end. -/
def Obligations.EnqueueStoresAndStarts : Prop :=
  ∀ (s : State) (b : Byte) (bs : List Byte), Ready s → QueueOk s →
    s.cfg.sized = true → s.cqTail.toNat + (b :: bs).length ≤ s.cfg.queueCap →
    ∃ t, exec (.enqueue (b :: bs)) s = .next t ∧
      Stored s.cqTail.toNat (b :: bs) s t ∧
      t.cqTail.toNat = s.cqTail.toNat + (b :: bs).length ∧
      SameReceiver s t ∧ SameKeys s t ∧ SameRun s t ∧ t.leds = s.leds ∧ t.out = s.out ∧
      (s.awaiting = true →
        t.awaiting = true ∧ t.cqHead = s.cqHead ∧ SameTransmitter s t ∧
        t.results = s.results ++ [.ok]) ∧
      (s.awaiting = false →
        t.cqHead = 1 ∧ BusRequest b (some .ok) t ∧ t.results = s.results)

/-- R142: an enqueue of no bytes has no step and no result. -/
def Obligations.EmptyEnqueueIsRefused : Prop :=
  ∀ s : State, (Ready s → exec (.enqueue []) s = .refused .emptyCommand) ∧
    ∀ t, exec (.enqueue []) s ≠ .next t

/-- R212, R213: a request that does not fit changes nothing and gets Full. One that fits sets or
clears the LED bits of the mask's low three bits, stores the opcode and the new LED state, and goes
on as an enqueue does. -/
def Obligations.LedRequestStoresCommand : Prop :=
  ∀ (s : State) (mask : Byte) (on : Bool), Ready s →
    (s.cfg.queueCap < s.cqTail.toNat + 2 →
      exec (.requestLed mask on) s = .next { s with results := s.results ++ [.full] }) ∧
    (QueueOk s → s.cfg.sized = true → s.cqTail.toNat + 2 ≤ s.cfg.queueCap →
      ∃ t, exec (.requestLed mask on) s = .next t ∧
        (∀ j < 3, t.leds.getLsbD j = if mask.getLsbD j = true then on else s.leds.getLsbD j) ∧
        Stored s.cqTail.toNat [s.cfg.cmdSetLeds, t.leds.setWidth 8] s t ∧
        t.cqTail.toNat = s.cqTail.toNat + 2 ∧
        SameReceiver s t ∧ SameKeys s t ∧ SameRun s t ∧ t.out = s.out ∧
        (s.awaiting = true →
          t.awaiting = true ∧ t.cqHead = s.cqHead ∧ SameTransmitter s t ∧
          t.results = s.results ++ [.ok]) ∧
        (s.awaiting = false →
          t.cqHead = 1 ∧ BusRequest s.cfg.cmdSetLeds (some .ok) t ∧ t.results = s.results))

/-- R103, R104, R140, R142: the two command formats, as the queue takes them: the bytes are stored,
the LED state is written by the set-indicators command only, and no result is returned by the format
itself. One that does not fit changes nothing (log entry 14), and one of no bytes is refused. -/
def Obligations.CommandFormatsAreStored : Prop :=
  (∀ (s : State) (b : Byte) (bs : List Byte), Ready s → QueueOk s → s.cfg.sized = true →
    s.cqTail.toNat + (b :: bs).length ≤ s.cfg.queueCap →
    ∃ t, exec (.cmdArbitrary (b :: bs)) s = .next t ∧
      Stored s.cqTail.toNat (b :: bs) s t ∧ t.leds = s.leds ∧
      t.cqTail.toNat = s.cqTail.toNat + (b :: bs).length ∧
      SameReceiver s t ∧ SameKeys s t ∧ SameRun s t ∧ t.out = s.out ∧ t.results = s.results ∧
      (s.awaiting = true → t.awaiting = true ∧ t.cqHead = s.cqHead ∧ SameTransmitter s t) ∧
      (s.awaiting = false → t.cqHead = 1 ∧ BusRequest b s.caller t)) ∧
  (∀ (s : State) (caps num scroll : Bool), Ready s → QueueOk s → s.cfg.valid = true →
    s.cqTail.toNat + 2 ≤ s.cfg.queueCap →
    ∃ t, exec (.cmdSetLeds caps num scroll) s = .next t ∧
      Stored s.cqTail.toNat [s.cfg.cmdSetLeds, ledByte s.cfg caps num scroll] s t ∧
      t.leds.setWidth 8 = ledByte s.cfg caps num scroll ∧
      t.cqTail.toNat = s.cqTail.toNat + 2 ∧
      SameReceiver s t ∧ SameKeys s t ∧ SameRun s t ∧ t.out = s.out ∧ t.results = s.results ∧
      (s.awaiting = true → t.awaiting = true ∧ t.cqHead = s.cqHead ∧ SameTransmitter s t) ∧
      (s.awaiting = false → t.cqHead = 1 ∧ BusRequest s.cfg.cmdSetLeds s.caller t)) ∧
  (∀ (s : State) (bytes : List Byte), Ready s → bytes ≠ [] →
    s.cfg.queueCap < s.cqTail.toNat + bytes.length → exec (.cmdArbitrary bytes) s = .next s) ∧
  (∀ (s : State) (caps num scroll : Bool), Ready s → s.cfg.queueCap < s.cqTail.toNat + 2 →
    exec (.cmdSetLeds caps num scroll) s = .next s) ∧
  (∀ s : State, Ready s → exec (.cmdArbitrary []) s = .refused .emptyCommand)

/-- R143: the reply classes are tested in priority order, which is also the order in which the reply
event's word decodes. -/
def Obligations.ReplyDispatchAgreesWithDecoder : Prop :=
  ∀ (s : State) (v : Byte) (e : Bool), Ready s → s.awaiting = true →
    exec (.cqReply v e) s =
      (if e = true then exec (.replyFrameError v) s
      else if v = s.cfg.replyAck then exec .replyAck s
      else if v = s.cfg.replyNak then
        (if s.cqHead = 0 then exec .replyNakGuard s else exec .replyNak s)
      else exec (.replyOther v) s) ∧
    exec (.cqReply v e) s = exec (decodeReply s.cfg (s.cqHead == 0) (replyWord e v)) s

/-- R144: DISCARD. -/
def Obligations.DiscardEmptiesTheQueue : Prop :=
  ∀ s : State, Ready s →
    exec .discard s = .next { s with cqHead := 0, cqTail := 0, awaiting := false }

/-- R146: an acknowledge sends the next byte and moves the cursor past it, or, where every byte has
been sent, empties the queue and clears `awaiting`. -/
def Obligations.AckAdvancesOrDrains : Prop :=
  ∀ s : State, Ready s → s.awaiting = true →
    (s.cqHead.toNat < s.cqTail.toNat → s.cqTail.toNat ≤ s.cfg.queueCap →
      exec .replyAck s = .next { s with
        cqHead := s.cqHead + 1, awaiting := true, txByte := Memory.read s.buf s.cqHead.toNat,
        clkLo := true, datLo := false, txPhase := .settle }) ∧
    (s.cqTail.toNat ≤ s.cqHead.toNat →
      exec .replyAck s = .next { s with awaiting := false, cqHead := 0, cqTail := 0 })

/-- R147: a negative acknowledge sends the byte before the cursor again and leaves the cursor. -/
def Obligations.NakSendsTheSameByteAgain : Prop :=
  ∀ s : State, Ready s → s.awaiting = true → QueueOk s →
    exec .replyNak s = .next { s with
      awaiting := true, txByte := Memory.read s.buf (s.cqHead.toNat - 1), clkLo := true,
      datLo := false, txPhase := .settle }

/-- R148, R149, R150: a reply with a frame error, an unexpected reply, and a NAK with nothing sent
each emit their diagnostic and empty the queue. -/
def Obligations.BadRepliesDiscardTheQueue : Prop :=
  ∀ s : State, Ready s → s.awaiting = true →
    (∀ v, exec (.replyFrameError v) s = .next { s with
      out := s.out ++ [.diag .replyFrame], cqHead := 0, cqTail := 0, awaiting := false }) ∧
    (∀ v, exec (.replyOther v) s = .next { s with
      out := s.out ++ [.diagByte .unexpectedReply v], cqHead := 0, cqTail := 0,
      awaiting := false }) ∧
    (s.cqHead = 0 → exec .replyNakGuard s = .next { s with
      out := s.out ++ [.diagByte .unexpectedReply s.cfg.replyNak], cqHead := 0, cqTail := 0,
      awaiting := false })

/-! ### The transmitter -/

/-- R145, R151: SEND marks the byte as awaiting its reply and makes the bus request; TX_BEGIN makes
the bus request. -/
def Obligations.SendMakesTheBusRequest : Prop :=
  ∀ (s : State) (v : Byte), Ready s →
    exec (.send v) s = .next { s with
      awaiting := true, txByte := v, clkLo := true, datLo := false, txPhase := .settle } ∧
    exec (.txBegin v) s = .next { s with
      txByte := v, clkLo := true, datLo := false, txPhase := .settle }

/-- R152: TX_SETTLE proceeds at any line levels. -/
def Obligations.SettleDrivesTheStartBit : Prop :=
  ∀ (s : State) (c d : Level), s.initialised = true → s.txPhase = .settle →
    exec (.txSettle c d) s = .next { s with datLo := true, clkLo := false, txPhase := .wlow 0 }

/-- R153, R155: at a low clock the k-th bit is driven, a 1 by releasing the line; at a high clock
nothing changes. -/
def Obligations.LowPhaseDrivesTheBit : Prop :=
  ∀ (s : State) (k : Fin 10) (d : Level), s.initialised = true → s.txPhase = .wlow k →
    exec (.txWlow false d) s = .next { s with
      datLo := !(if k.val < s.cfg.dataBits then s.txByte.getLsbD k.val
        else if k.val = s.cfg.dataBits then oddpar s.txByte else true)
      txPhase := .whigh k } ∧
    exec (.txWlow true d) s = .next s

/-- R154: at a high clock the next bit's phase follows, after the frame's last bit the line
acknowledge or the end of the transmission; at a low clock nothing changes. The k-th of these phases
sends bit k + 1 of the `FRAME_BITS`. -/
def Obligations.HighPhaseGoesOn : Prop :=
  ∀ (s : State) (k : Fin 10) (d : Level), s.initialised = true → s.txPhase = .whigh k →
    exec (.txWhigh false d) s = .next s ∧
    (∀ j : Fin 10, j.val = k.val + 1 → k.val + 2 < s.cfg.frameBits →
      exec (.txWhigh true d) s = .next { s with txPhase := .wlow j }) ∧
    (k.val = 9 ∨ s.cfg.frameBits ≤ k.val + 2 → s.cfg.txLineAck = .wait →
      exec (.txWhigh true d) s = .next { s with txPhase := .ack1 }) ∧
    (k.val = 9 ∨ s.cfg.frameBits ≤ k.val + 2 → s.cfg.txLineAck = .noWait →
      exec (.txWhigh true d) s = exec .txComplete s)

/-- R156, R157, R158: the three phases of the line acknowledge; each waits for its levels and
changes nothing until they come. -/
def Obligations.LineAcknowledgePhases : Prop :=
  ∀ (s : State) (c d : Level), s.initialised = true →
    (s.txPhase = .ack1 → exec (.txAck1 c d) s =
      if d = false then .next { s with txPhase := .ack2 } else .next s) ∧
    (s.txPhase = .ack2 → exec (.txAck2 c d) s =
      if c = false then .next { s with txPhase := .ack3 } else .next s) ∧
    (s.txPhase = .ack3 → exec (.txAck3 c d) s =
      if c = true ∧ d = true then exec .txComplete s else .next s)

/-- R159: TX_COMPLETE ends the transmission with both lines released, and the blocked operation's
result goes to the owner. -/
def Obligations.CompletionReturnsToTheOwner : Prop :=
  ∀ s : State, s.initialised = true →
    (s.txPhase = .whigh 9 ∧ s.cfg.txLineAck = .noWait ∨ s.txPhase = .ack3) →
    exec .txComplete s = .next { s with
      txPhase := .idle, results := s.results ++ s.caller.toList, caller := none } ∧
    (TxOk s → s.cfg.sized = true → s.clkLo = false ∧ s.datLo = false)

/-- R108, R164: the device's side of one byte takes a transmission from its bus request to its end,
in 21 polls or in 24 with the line acknowledge, and releases both lines, whatever the data levels of
its clock polls are. -/
def Obligations.DeviceClocksCompleteTheByte : Prop :=
  ∀ (s : State) (xs : List (Level × Level)) (rest : List Stimulus), s.initialised = true →
    s.cfg.sized = true → s.txPhase = .settle → xs.length = 10 →
    s.inputs = devRx s.cfg.txLineAck xs ++ rest →
    Host.Core.run Sys2Proof.core (match s.cfg.txLineAck with | .noWait => 21 | .wait => 24) s =
      .next { s with
        txPhase := .idle, clkLo := false, datLo := false,
        results := s.results ++ s.caller.toList, caller := none, inputs := rest }

/-- R160, R247: polls at which the lines do not meet the condition of the current phase change
nothing, however many there are: the block stays busy in that phase. -/
def Obligations.StalledDeviceHangsTheBlock : Prop :=
  ∀ (s : State) (ps : List (Level × Level)) (rest : List Stimulus), Transmitting s →
    (∀ p ∈ ps, lineCondition s.txPhase p.1 p.2 = false) →
    s.inputs = ps.map (fun p => .txp p.1 p.2) ++ rest →
    Host.Core.run Sys2Proof.core ps.length s = .next { s with inputs := rest }

/-! ### The Key Handler -/

/-- R186: the key classes are tested in its order, which is also the order in which the key event's
word decodes. -/
def Obligations.KeyDispatchAgreesWithDecoder : Prop :=
  ∀ (s : State) (v : Byte) (e : Bool), Ready s → s.awaiting = false →
    exec (.khDecoded v e) s =
      (if e = true then exec (.keyError s.relPend v) s
      else if v = s.cfg.scBreak then exec (.keyBreak s.relPend) s
      else if s.relPend = true then
        (if v = s.cfg.scLshift then exec .keyReleaseShiftL s
        else if v = s.cfg.scRshift then exec .keyReleaseShiftR s
        else exec (.keyReleaseOther v) s)
      else if v = s.cfg.scLshift then exec .keyPressShiftL s
      else if v = s.cfg.scRshift then exec .keyPressShiftR s
      else if v = s.cfg.scCaps then exec .keyPressCaps s
      else if s.cfg.mapLimit < v.toNat then exec (.keyPressHigh v) s
      else exec (.keyPressMapped v) s) ∧
    exec (.khDecoded v e) s = exec (decodeKey s.cfg (keyWord s.relPend e v)) s

/-- R180, R181: an error frame clears the pending release, a break prefix sets it, and neither does
anything else. -/
def Obligations.ErrorAndBreakWriteTheReleaseFlag : Prop :=
  ∀ (s : State) (v : Byte), Ready s → s.awaiting = false →
    exec (.keyError s.relPend v) s = .next { s with relPend := false } ∧
    exec (.keyBreak s.relPend) s = .next { s with relPend := true }

/-- R182, R183: a release of a shift key clears that key's bit; every other release only clears the
pending release. -/
def Obligations.ReleasesClearTheirShift : Prop :=
  ∀ (s : State) (v : Byte), Ready s → s.awaiting = false → s.relPend = true →
    exec .keyReleaseShiftL s =
      .next { s with relPend := false, mods := { s.mods with left := false } } ∧
    exec .keyReleaseShiftR s =
      .next { s with relPend := false, mods := { s.mods with right := false } } ∧
    exec (.keyReleaseOther v) s = .next { s with relPend := false }

/-- R184, R187: a press of a shift key sets that key's bit; a press above the map does nothing. -/
def Obligations.PressesSetTheirShift : Prop :=
  ∀ (s : State) (v : Byte), Ready s → s.awaiting = false → s.relPend = false →
    exec .keyPressShiftL s = .next { s with mods := { s.mods with left := true } } ∧
    exec .keyPressShiftR s = .next { s with mods := { s.mods with right := true } } ∧
    exec (.keyPressHigh v) s = .next s

/-- R185: a press of caps-lock toggles the caps bit and requests the LED state that reflects it; the
request's result is dropped, and where it does not fit the LED state keeps its value. -/
def Obligations.CapsTogglesAndRequestsLed : Prop :=
  ∀ s : State, Ready s → s.awaiting = false → s.relPend = false →
    (s.cfg.queueCap < s.cqTail.toNat + 2 →
      exec .keyPressCaps s = .next { s with mods := { s.mods with caps := !s.mods.caps } }) ∧
    (QueueOk s → s.cfg.sized = true → s.cqTail.toNat + 2 ≤ s.cfg.queueCap →
      ∃ t, exec .keyPressCaps s = .next t ∧
        t.mods = { s.mods with caps := !s.mods.caps } ∧
        (∀ j < 3, t.leds.getLsbD j =
          if s.cfg.ledCaps.getLsbD j = true then !s.mods.caps else s.leds.getLsbD j) ∧
        Stored 0 [s.cfg.cmdSetLeds, t.leds.setWidth 8] s t ∧
        t.cqTail = 2 ∧ t.cqHead = 1 ∧ BusRequest s.cfg.cmdSetLeds s.caller t ∧
        SameReceiver s t ∧ SameRun s t ∧ t.relPend = s.relPend ∧ t.out = s.out ∧
        t.results = s.results)

/-- R188, R190, R191: a mapped press emits the character its entry and the modifiers select, nothing
where that character is empty, and changes nothing else. -/
def Obligations.MappedPressEmitsSelectedCharacter : Prop :=
  ∀ (s : State) (v : Byte), Ready s → s.awaiting = false → s.relPend = false →
    let x := keymapAt s.cfg v
    let letter := 0x61 ≤ x.regular.toNat ∧ x.regular.toNat ≤ 0x7A
    let shift := s.mods.left = true ∨ s.mods.right = true
    let c :=
      if letter then
        (if shift ↔ s.mods.caps = true then x.regular else x.shifted)
      else if shift then x.shifted else x.regular
    exec (.keyPressMapped v) s =
      .next { s with out := s.out ++ (if c = 0x00 then [] else [.emit c]) }

/-! ### The whole machine -/

/-- R45, R53, R54, R72, R164, R218: every step keeps the invariant. -/
def Obligations.EveryStepKeepsTheInvariant : Prop :=
  ∀ s t : State, BlockInv s → step s = .next t → BlockInv t

/-- R45, R53, R54: the reset state meets the invariant, under the default configuration and under
every configuration of the sizes that the rules hold (log entry 15). -/
def Obligations.ResetMeetsTheInvariant : Prop :=
  BlockInv State.reset ∧ ∀ c, c.sized = true → BlockInv (State.resetWith c)

/-- R74, R237: from a state that meets the invariant no step leaves the buffer's range or the bit
counter's. -/
def Obligations.NoFaultUnderTheInvariant : Prop :=
  ∀ (s : State) (r : Fault), BlockInv s → step s ≠ .fault r

/-- R50: no row reads the output trace, removes an event from it or clears it: with other events
before it, every row does the same. -/
def Obligations.TraceIsNeverRead : Prop :=
  ∀ (i : Instr) (s : State) (o : List Event),
    exec i { s with out := o ++ s.out } = mapNext (fun t => { t with out := o ++ t.out }) (exec i s)

/-- R49, R263: no row writes the configuration. -/
def Obligations.ConfigurationIsNeverWritten : Prop :=
  ∀ (i : Instr) (s t : State), exec i s = .next t → t.cfg = s.cfg

/-- R57: only what runs the receiver writes its registers, and before a frame's last bit the
receiver does not write the queue. -/
def Obligations.ReceiverAndQueueOwnTheirState : Prop :=
  (∀ (i : Instr) (s t : State), runsReceiver i = false → exec i s = .next t → SameReceiver s t) ∧
  (∀ (s t : State) (b c : Level), s.rxState ≠ .stopBit →
    (exec (.rxStart b) s = .next t ∨ exec (.rxData b) s = .next t ∨
      exec (.rxParity b) s = .next t ∨ exec (.observeBit b) s = .next t ∨
      exec (.step c b) s = .next t) →
    t.buf = s.buf ∧ t.cqHead = s.cqHead ∧ t.cqTail = s.cqTail ∧ t.awaiting = s.awaiting)

/-- R48, C10: outside INIT, whatever changes the LED state stores, in the same step, the
set-indicators command that carries it. A FRAME is a run of STEPs (FrameIsItsSteps), each of which
is covered. -/
def Obligations.LedStateChangesWithItsCommand : Prop :=
  ∀ (i : Instr) (s t : State), i ≠ .init → (∀ a d p b, i ≠ .frame a d p b) →
    exec i s = .next t → t.leds ≠ s.leds →
    t.cqTail.toNat = s.cqTail.toNat + 2 ∧
    Stored s.cqTail.toNat [s.cfg.cmdSetLeds, t.leds.setWidth 8] s t

/-- R199: a character is emitted only by KEY_PRESS_MAPPED or a row that runs it, where no reply is
awaited and no release is pending; it is the one that some key's entry and the modifiers select, one
at most, and never the empty one. A FRAME is a run of STEPs (FrameIsItsSteps), each of which is
covered. -/
def Obligations.CharactersComeFromPressesOnly : Prop :=
  ∀ (i : Instr) (s t : State) (c : Byte), (∀ a d p b, i ≠ .frame a d p b) →
    exec i s = .next t → t.out.count (.emit c) ≠ s.out.count (.emit c) →
    runsMappedPress i = true ∧ s.awaiting = false ∧ s.relPend = false ∧
    (∃ v, c = selectedChar s.mods (keymapAt s.cfg v)) ∧ c ≠ 0x00 ∧ t.out = s.out ++ [.emit c]

/-- R167: the tail only grows until it returns to 0. A FRAME is a run of STEPs (FrameIsItsSteps),
each of which is covered. -/
def Obligations.TailGrowsUntilDrained : Prop :=
  ∀ (i : Instr) (s t : State), (∀ a d p b, i ≠ .frame a d p b) →
    exec i s = .next t → s.cqTail.toNat ≤ t.cqTail.toNat ∨ t.cqTail = 0

/-- R215: the owner gets results from ENQUEUE and REQUEST_LED only, at once or at the end of the
transmission they started: only these two leave a result to be returned at that end. -/
def Obligations.ResultsComeFromTwoOperations : Prop :=
  ∀ (i : Instr) (s t : State), exec i s = .next t →
    (t.results = s.results ∨
      ∃ r, t.results = s.results ++ [r] ∧
        (returnsResult i = true ∨ (isTransmitRow i = true ∧ s.caller = some r))) ∧
    (∀ r, t.caller = some r → s.caller ≠ some r → returnsResult i = true)

/-- R42, R162: a transmission a step starts is of the byte just before the send cursor, it starts
with the bus request, and that byte awaits its reply. -/
def Obligations.TransmissionSendsTheCursorsByte : Prop :=
  ∀ s t : State, BlockInv s → Ready s → step s = .next t → t.txPhase ≠ .idle →
    t.txPhase = .settle ∧ t.awaiting = true ∧ 1 ≤ t.cqHead.toNat ∧
    bufRead t (t.cqHead.toNat - 1) = some t.txByte

/-! ### Encodings -/

/-- 30_encoding.md: decoding an encoded well-formed instruction gives it back, with every operand,
for every row that has a binary form. -/
def Obligations.DecodeInvertsEncode : Prop :=
  ∀ (c : Config) (i : Instr) (f : Format) (bs : List Byte), c.valid = true → i.wf c = true →
    format i = some f → encode c i = some bs → decode c f bs = .ok (i, [])

/-- 30_encoding.md: whatever bytes decode to, the instruction is well-formed and its encoding is
those bytes, so that no two words of a format have one meaning. -/
def Obligations.EncodeInvertsDecode : Prop :=
  ∀ (c : Config) (f : Format) (bs rest : List Byte) (i : Instr),
    decode c f bs = .ok (i, rest) →
    i.wf c = true ∧ ∃ w, encode c i = some w ∧ bs = w ++ rest

/-- R97, R99, R100, R104, R121, R153: words written out from the tables decode to the rows they
stand for, and reserved ones are rejected by name. The words and the rejections are the model's
choice where the spec gives none: they rest on the default parameter values (log entry 16), on the
low byte first (log entry 22) and on the names of the rejections (log entry 19). -/
def Obligations.TableWordsDecode : Prop :=
  decode defaultConfig .wireFrame [0x38, 0x04] = .ok (.frame false 0x1C false true, []) ∧
  decode defaultConfig .rxObserve [0x05] = .ok (.rxParity true, []) ∧
  decode defaultConfig .replyEvent [0xFA, 0x00] = .ok (.replyAck, []) ∧
  decode defaultConfig .replyEvent [0xFA, 0x01] = .ok (.replyFrameError 0xFA, []) ∧
  decode defaultConfig .keyEvent [0x12, 0x02] = .ok (.keyReleaseShiftL, []) ∧
  decode defaultConfig .keyEvent [0x58, 0x00] = .ok (.keyPressCaps, []) ∧
  decode defaultConfig .txWlow [0x01] = .ok (.txWlow false true, []) ∧
  decode defaultConfig .command2 [0xED, 0x04] = .ok (.cmdSetLeds true false false, []) ∧
  decode defaultConfig .command2 [0xED, 0x08] = .error .ledBitsReserved ∧
  decode defaultConfig .commandN [] = .error .emptyCommand ∧
  decode defaultConfig .rxObserve [0x08] = .error .unusedBits

/-- R94, R95: the parity bit is 1 XOR the eight data bits, and makes the number of 1 bits odd. -/
def Obligations.OddParityLaw : Prop :=
  ∀ v : Byte,
    oddpar v = (true ^^ v.getLsbD 0 ^^ v.getLsbD 1 ^^ v.getLsbD 2 ^^ v.getLsbD 3 ^^ v.getLsbD 4 ^^
      v.getLsbD 5 ^^ v.getLsbD 6 ^^ v.getLsbD 7) ∧
    (popcount v + (oddpar v).toNat) % 2 = 1

/-- R93: the frame word, with f0 at bit 0. -/
def Obligations.FrameWordLayout : Prop :=
  ∀ v : Byte,
    (fw v).toNat = (1 <<< 10) ||| ((oddpar v).toNat <<< 9) ||| (v.toNat <<< 1)

/-! ### FRAME and its STEPs -/

/-- R108, R131, R211: from every ready state that meets the invariant, whatever the receiver is at,
FRAME is the run of the STEPs its script form expands to; where one of them starts a transmission,
the owner is blocked and those after it stay to come (log entry 8). -/
def Obligations.FrameIsItsSteps : Prop :=
  ∀ (s : State) (start : Level) (d : Byte) (p stop : Level), Ready s → BlockInv s →
    let steps := rxFrameStar s.cfg start d p stop
    ∃ n t, n ≤ steps.length ∧ exec (.frame start d p stop) s = .next t ∧
      Host.Core.run Sys2Proof.core n { s with inputs := steps ++ s.inputs } = .next t ∧
      (t.txPhase = .idle → n = steps.length) ∧ t.inputs = steps.drop n ++ s.inputs
end

