-- ==== Sys2Proof/Laws/Memory.lean ====
section
/-! SUPPORT. The command buffer: a read after a write, and the canonical form every write keeps. -/

namespace Sys2Proof.Machine

/-! ### Reads -/

theorem Memory.read_insert (m : Memory) (i a : Nat) (v : Byte) :
    Memory.read (Memory.insert m i v) a = if a = i then v else Memory.read m a := by
  induction m with
  | nil => simp [Memory.insert, Memory.read, eq_comm]
  | cons c rest ih =>
    obtain ⟨b, x⟩ := c
    simp only [Memory.insert]
    split
    · by_cases h : a = i <;> simp [Memory.read, h, Ne.symm, eq_comm]
    · split
      · subst_vars
        by_cases h : a = b <;> simp [Memory.read, h, eq_comm]
      · simp only [Memory.read, ih]
        by_cases h : b = a <;> simp [h]
        intro h'; omega

theorem Memory.read_erase (m : Memory) (i a : Nat) :
    Memory.read (Memory.erase m i) a = if a = i then 0x00 else Memory.read m a := by
  induction m with
  | nil => simp [Memory.erase, Memory.read]
  | cons c rest ih =>
    obtain ⟨b, x⟩ := c
    simp only [Memory.erase]
    split
    · subst_vars; rw [ih]
      by_cases h : a = b <;> simp [Memory.read, h, Ne.symm]
    · simp only [Memory.read, ih]
      by_cases h : b = a <;> simp [h]
      intro h'; omega

/-- A read after a write: the written index gives the byte, every other index reads as before. -/
theorem Memory.read_write (m : Memory) (i a : Nat) (v : Byte) :
    Memory.read (Memory.write m i v) a = if a = i then v else Memory.read m a := by
  unfold Memory.write
  split
  · subst_vars; exact Memory.read_erase m i a
  · exact Memory.read_insert m i a v

theorem Memory.read_write_other (m : Memory) {i a : Nat} (v : Byte) (h : a ≠ i) :
    Memory.read (Memory.write m i v) a = Memory.read m a := by simp [Memory.read_write, h]

/-- Bytes stored from index `i` on are read back in order. -/
theorem Memory.read_writeAll_in (vs : List Byte) (m : Memory) {i a : Nat}
    (h : i ≤ a ∧ a < i + vs.length) :
    vs[a - i]? = some (Memory.read (Memory.writeAll m i vs) a) := by
  induction vs generalizing m i with
  | nil => simp at h; omega
  | cons v vs ih =>
    simp only [List.length_cons] at h
    by_cases ha : a = i
    · subst ha
      have hr : ∀ (vs : List Byte) (m : Memory) (i : Nat), a < i →
          Memory.read (Memory.writeAll m i vs) a = Memory.read m a := by
        intro vs
        induction vs with
        | nil => intros; rfl
        | cons w ws ihw =>
          intro m i h
          rw [Memory.writeAll, ihw _ _ (by omega), Memory.read_write_other _ _ (by omega)]
      simp [Memory.writeAll, hr, Memory.read_write]
    · have h3 : a - i = a - (i + 1) + 1 := by omega
      rw [h3, List.getElem?_cons_succ]
      exact ih _ (by omega)

/-- Every index outside the stored bytes reads as before. -/
theorem Memory.read_writeAll_out (vs : List Byte) (m : Memory) {i a : Nat}
    (h : ¬(i ≤ a ∧ a < i + vs.length)) :
    Memory.read (Memory.writeAll m i vs) a = Memory.read m a := by
  induction vs generalizing m i with
  | nil => rfl
  | cons v vs ih =>
    simp only [List.length_cons] at h
    rw [Memory.writeAll, ih _ (by omega), Memory.read_write_other _ _ (by omega)]

/-! ### The canonical form -/

theorem Memory.risesFrom_insert (m : Memory) (lo : Option Nat) (i : Nat) (v : Byte)
    (hv : v ≠ 0x00) (hi : ∀ l, lo = some l → l < i) (h : Memory.risesFrom lo m = true) :
    Memory.risesFrom lo (Memory.insert m i v) = true := by
  induction m generalizing lo with
  | nil => cases lo <;> simp_all [Memory.insert, Memory.risesFrom]
  | cons c rest ih =>
    obtain ⟨b, x⟩ := c
    simp only [Memory.risesFrom, Bool.and_eq_true] at h
    simp only [Memory.insert]
    split
    · cases lo <;> simp_all [Memory.risesFrom]
    · split
      · subst_vars; cases lo <;> simp_all [Memory.risesFrom]
      · simp only [Memory.risesFrom, Bool.and_eq_true]
        exact ⟨h.1, ih (some b) (by simp; omega) h.2⟩

/-- A lower start asks less. -/
theorem Memory.risesFrom_mono (m : Memory) {lo lo' : Option Nat}
    (hl : ∀ l, lo = some l → ∃ l', lo' = some l' ∧ l ≤ l') (h : Memory.risesFrom lo' m = true) :
    Memory.risesFrom lo m = true := by
  cases m with
  | nil => rfl
  | cons c rest =>
    obtain ⟨b, x⟩ := c
    cases lo with
    | none => cases lo' <;> simp_all [Memory.risesFrom]
    | some l =>
      obtain ⟨l', rfl, hl'⟩ := hl l rfl
      simp only [Memory.risesFrom, Bool.and_eq_true, decide_eq_true_eq] at h ⊢
      exact ⟨⟨by omega, h.1.2⟩, h.2⟩

theorem Memory.risesFrom_erase (m : Memory) (lo : Option Nat) (i : Nat)
    (h : Memory.risesFrom lo m = true) : Memory.risesFrom lo (Memory.erase m i) = true := by
  induction m generalizing lo with
  | nil => rfl
  | cons c rest ih =>
    obtain ⟨b, x⟩ := c
    simp only [Memory.erase]
    split
    · refine ih lo (Memory.risesFrom_mono rest (lo' := some b) ?_ ?_)
      · intro l hl; subst hl
        simp only [Memory.risesFrom, Bool.and_eq_true, decide_eq_true_eq] at h
        exact ⟨b, rfl, by omega⟩
      · simp only [Memory.risesFrom, Bool.and_eq_true] at h; exact h.2
    · simp only [Memory.risesFrom, Bool.and_eq_true] at h ⊢
      exact ⟨h.1, ih _ h.2⟩

/-- Every memory operation keeps the canonical form. -/
theorem Memory.wf_write (m : Memory) (i : Nat) (v : Byte) (h : Memory.wf m = true) :
    Memory.wf (Memory.write m i v) = true := by
  unfold Memory.write
  split
  · exact Memory.risesFrom_erase m none i h
  · exact Memory.risesFrom_insert m none i v ‹_› (by simp) h

theorem Memory.wf_writeAll (vs : List Byte) (m : Memory) (i : Nat) (h : Memory.wf m = true) :
    Memory.wf (Memory.writeAll m i vs) = true := by
  induction vs generalizing m i with
  | nil => exact h
  | cons v vs ih => exact ih _ _ (Memory.wf_write m i v h)

/-! ### The indices listed -/

theorem Memory.mem_insert (m : Memory) (i : Nat) (v : Byte) {c : Host.Cell}
    (h : c ∈ Memory.insert m i v) : c.1 = i ∨ c ∈ m := by
  induction m with
  | nil => simp only [Memory.insert, List.mem_singleton] at h; exact .inl (by rw [h])
  | cons d rest ih =>
    obtain ⟨b, x⟩ := d
    simp only [Memory.insert] at h
    split at h
    · exact (List.mem_cons.1 h).imp (by rintro rfl; rfl) id
    · split at h
      · exact (List.mem_cons.1 h).imp (by rintro rfl; rfl) (List.mem_cons_of_mem _)
      · rcases List.mem_cons.1 h with rfl | h
        · exact .inr List.mem_cons_self
        · exact (ih h).imp id (List.mem_cons_of_mem _)

theorem Memory.mem_erase (m : Memory) (i : Nat) {c : Host.Cell} (h : c ∈ Memory.erase m i) :
    c ∈ m := by
  induction m with
  | nil => exact h
  | cons d rest ih =>
    obtain ⟨b, x⟩ := d
    simp only [Memory.erase] at h
    split at h
    · exact List.mem_cons_of_mem _ (ih h)
    · rcases List.mem_cons.1 h with rfl | h
      · exact List.mem_cons_self
      · exact List.mem_cons_of_mem _ (ih h)

/-- A write lists no index but the written one and those listed before. -/
theorem Memory.bounded_write (m : Memory) (i n : Nat) (v : Byte) (hi : i < n)
    (h : ∀ c ∈ m, c.1 < n) : ∀ c ∈ Memory.write m i v, c.1 < n := by
  intro c hc
  unfold Memory.write at hc
  split at hc
  · exact h c (Memory.mem_erase m i hc)
  · rcases Memory.mem_insert m i v hc with rfl | hc
    · exact hi
    · exact h c hc

theorem Memory.bounded_writeAll (vs : List Byte) (m : Memory) (i n : Nat)
    (hi : i + vs.length ≤ n) (h : ∀ c ∈ m, c.1 < n) :
    ∀ c ∈ Memory.writeAll m i vs, c.1 < n := by
  induction vs generalizing m i with
  | nil => exact h
  | cons v vs ih =>
    simp only [List.length_cons] at hi
    exact ih _ _ (by omega) (Memory.bounded_write m i n v (by omega) h)

/-- The buffer at reset is in canonical form. -/
theorem State.reset_buf_wf : Memory.wf State.reset.buf = true := rfl

end Sys2Proof.Machine
end

