-- ==== Sys2Proof/Laws/State.lean ====
section
/-! SUPPORT. What each update of the state does to each field: one lemma per field per update, so
that no later proof unfolds a record update. -/

namespace Sys2Proof.Machine

/-! ### `emit` -/

@[simp] theorem emit_rxState (ev : Event) (s : State) :
    (emit ev s).rxState = s.rxState := rfl
@[simp] theorem emit_rxCount (ev : Event) (s : State) :
    (emit ev s).rxCount = s.rxCount := rfl
@[simp] theorem emit_rxAcc (ev : Event) (s : State) :
    (emit ev s).rxAcc = s.rxAcc := rfl
@[simp] theorem emit_rxErr (ev : Event) (s : State) :
    (emit ev s).rxErr = s.rxErr := rfl
@[simp] theorem emit_prevClk (ev : Event) (s : State) :
    (emit ev s).prevClk = s.prevClk := rfl
@[simp] theorem emit_txPhase (ev : Event) (s : State) :
    (emit ev s).txPhase = s.txPhase := rfl
@[simp] theorem emit_txByte (ev : Event) (s : State) :
    (emit ev s).txByte = s.txByte := rfl
@[simp] theorem emit_clkLo (ev : Event) (s : State) :
    (emit ev s).clkLo = s.clkLo := rfl
@[simp] theorem emit_datLo (ev : Event) (s : State) :
    (emit ev s).datLo = s.datLo := rfl
@[simp] theorem emit_buf (ev : Event) (s : State) :
    (emit ev s).buf = s.buf := rfl
@[simp] theorem emit_cqHead (ev : Event) (s : State) :
    (emit ev s).cqHead = s.cqHead := rfl
@[simp] theorem emit_cqTail (ev : Event) (s : State) :
    (emit ev s).cqTail = s.cqTail := rfl
@[simp] theorem emit_awaiting (ev : Event) (s : State) :
    (emit ev s).awaiting = s.awaiting := rfl
@[simp] theorem emit_mods (ev : Event) (s : State) :
    (emit ev s).mods = s.mods := rfl
@[simp] theorem emit_relPend (ev : Event) (s : State) :
    (emit ev s).relPend = s.relPend := rfl
@[simp] theorem emit_leds (ev : Event) (s : State) :
    (emit ev s).leds = s.leds := rfl
@[simp] theorem emit_initialised (ev : Event) (s : State) :
    (emit ev s).initialised = s.initialised := rfl
@[simp] theorem emit_out (ev : Event) (s : State) :
    (emit ev s).out = s.out ++ [ev] := rfl
@[simp] theorem emit_results (ev : Event) (s : State) :
    (emit ev s).results = s.results := rfl
@[simp] theorem emit_caller (ev : Event) (s : State) :
    (emit ev s).caller = s.caller := rfl
@[simp] theorem emit_inputs (ev : Event) (s : State) :
    (emit ev s).inputs = s.inputs := rfl
@[simp] theorem emit_freeIdx (ev : Event) (s : State) :
    (emit ev s).freeIdx = s.freeIdx := rfl
@[simp] theorem emit_cfg (ev : Event) (s : State) :
    (emit ev s).cfg = s.cfg := rfl

/-! ### `writeLine_clk` -/

@[simp] theorem writeLine_clk_rxState (level : Level) (s : State) :
    (writeLine .clk level s).rxState = s.rxState := rfl
@[simp] theorem writeLine_clk_rxCount (level : Level) (s : State) :
    (writeLine .clk level s).rxCount = s.rxCount := rfl
@[simp] theorem writeLine_clk_rxAcc (level : Level) (s : State) :
    (writeLine .clk level s).rxAcc = s.rxAcc := rfl
@[simp] theorem writeLine_clk_rxErr (level : Level) (s : State) :
    (writeLine .clk level s).rxErr = s.rxErr := rfl
@[simp] theorem writeLine_clk_prevClk (level : Level) (s : State) :
    (writeLine .clk level s).prevClk = s.prevClk := rfl
@[simp] theorem writeLine_clk_txPhase (level : Level) (s : State) :
    (writeLine .clk level s).txPhase = s.txPhase := rfl
@[simp] theorem writeLine_clk_txByte (level : Level) (s : State) :
    (writeLine .clk level s).txByte = s.txByte := rfl
@[simp] theorem writeLine_clk_clkLo (level : Level) (s : State) :
    (writeLine .clk level s).clkLo = !level := rfl
@[simp] theorem writeLine_clk_datLo (level : Level) (s : State) :
    (writeLine .clk level s).datLo = s.datLo := rfl
@[simp] theorem writeLine_clk_buf (level : Level) (s : State) :
    (writeLine .clk level s).buf = s.buf := rfl
@[simp] theorem writeLine_clk_cqHead (level : Level) (s : State) :
    (writeLine .clk level s).cqHead = s.cqHead := rfl
@[simp] theorem writeLine_clk_cqTail (level : Level) (s : State) :
    (writeLine .clk level s).cqTail = s.cqTail := rfl
@[simp] theorem writeLine_clk_awaiting (level : Level) (s : State) :
    (writeLine .clk level s).awaiting = s.awaiting := rfl
@[simp] theorem writeLine_clk_mods (level : Level) (s : State) :
    (writeLine .clk level s).mods = s.mods := rfl
@[simp] theorem writeLine_clk_relPend (level : Level) (s : State) :
    (writeLine .clk level s).relPend = s.relPend := rfl
@[simp] theorem writeLine_clk_leds (level : Level) (s : State) :
    (writeLine .clk level s).leds = s.leds := rfl
@[simp] theorem writeLine_clk_initialised (level : Level) (s : State) :
    (writeLine .clk level s).initialised = s.initialised := rfl
@[simp] theorem writeLine_clk_out (level : Level) (s : State) :
    (writeLine .clk level s).out = s.out := rfl
@[simp] theorem writeLine_clk_results (level : Level) (s : State) :
    (writeLine .clk level s).results = s.results := rfl
@[simp] theorem writeLine_clk_caller (level : Level) (s : State) :
    (writeLine .clk level s).caller = s.caller := rfl
@[simp] theorem writeLine_clk_inputs (level : Level) (s : State) :
    (writeLine .clk level s).inputs = s.inputs := rfl
@[simp] theorem writeLine_clk_freeIdx (level : Level) (s : State) :
    (writeLine .clk level s).freeIdx = s.freeIdx := rfl
@[simp] theorem writeLine_clk_cfg (level : Level) (s : State) :
    (writeLine .clk level s).cfg = s.cfg := rfl

/-! ### `writeLine_dat` -/

@[simp] theorem writeLine_dat_rxState (level : Level) (s : State) :
    (writeLine .dat level s).rxState = s.rxState := rfl
@[simp] theorem writeLine_dat_rxCount (level : Level) (s : State) :
    (writeLine .dat level s).rxCount = s.rxCount := rfl
@[simp] theorem writeLine_dat_rxAcc (level : Level) (s : State) :
    (writeLine .dat level s).rxAcc = s.rxAcc := rfl
@[simp] theorem writeLine_dat_rxErr (level : Level) (s : State) :
    (writeLine .dat level s).rxErr = s.rxErr := rfl
@[simp] theorem writeLine_dat_prevClk (level : Level) (s : State) :
    (writeLine .dat level s).prevClk = s.prevClk := rfl
@[simp] theorem writeLine_dat_txPhase (level : Level) (s : State) :
    (writeLine .dat level s).txPhase = s.txPhase := rfl
@[simp] theorem writeLine_dat_txByte (level : Level) (s : State) :
    (writeLine .dat level s).txByte = s.txByte := rfl
@[simp] theorem writeLine_dat_clkLo (level : Level) (s : State) :
    (writeLine .dat level s).clkLo = s.clkLo := rfl
@[simp] theorem writeLine_dat_datLo (level : Level) (s : State) :
    (writeLine .dat level s).datLo = !level := rfl
@[simp] theorem writeLine_dat_buf (level : Level) (s : State) :
    (writeLine .dat level s).buf = s.buf := rfl
@[simp] theorem writeLine_dat_cqHead (level : Level) (s : State) :
    (writeLine .dat level s).cqHead = s.cqHead := rfl
@[simp] theorem writeLine_dat_cqTail (level : Level) (s : State) :
    (writeLine .dat level s).cqTail = s.cqTail := rfl
@[simp] theorem writeLine_dat_awaiting (level : Level) (s : State) :
    (writeLine .dat level s).awaiting = s.awaiting := rfl
@[simp] theorem writeLine_dat_mods (level : Level) (s : State) :
    (writeLine .dat level s).mods = s.mods := rfl
@[simp] theorem writeLine_dat_relPend (level : Level) (s : State) :
    (writeLine .dat level s).relPend = s.relPend := rfl
@[simp] theorem writeLine_dat_leds (level : Level) (s : State) :
    (writeLine .dat level s).leds = s.leds := rfl
@[simp] theorem writeLine_dat_initialised (level : Level) (s : State) :
    (writeLine .dat level s).initialised = s.initialised := rfl
@[simp] theorem writeLine_dat_out (level : Level) (s : State) :
    (writeLine .dat level s).out = s.out := rfl
@[simp] theorem writeLine_dat_results (level : Level) (s : State) :
    (writeLine .dat level s).results = s.results := rfl
@[simp] theorem writeLine_dat_caller (level : Level) (s : State) :
    (writeLine .dat level s).caller = s.caller := rfl
@[simp] theorem writeLine_dat_inputs (level : Level) (s : State) :
    (writeLine .dat level s).inputs = s.inputs := rfl
@[simp] theorem writeLine_dat_freeIdx (level : Level) (s : State) :
    (writeLine .dat level s).freeIdx = s.freeIdx := rfl
@[simp] theorem writeLine_dat_cfg (level : Level) (s : State) :
    (writeLine .dat level s).cfg = s.cfg := rfl

/-! ### `delay` -/

@[simp] theorem delay_rxState (us : Nat) (s : State) :
    (delay us s).rxState = s.rxState := rfl
@[simp] theorem delay_rxCount (us : Nat) (s : State) :
    (delay us s).rxCount = s.rxCount := rfl
@[simp] theorem delay_rxAcc (us : Nat) (s : State) :
    (delay us s).rxAcc = s.rxAcc := rfl
@[simp] theorem delay_rxErr (us : Nat) (s : State) :
    (delay us s).rxErr = s.rxErr := rfl
@[simp] theorem delay_prevClk (us : Nat) (s : State) :
    (delay us s).prevClk = s.prevClk := rfl
@[simp] theorem delay_txPhase (us : Nat) (s : State) :
    (delay us s).txPhase = s.txPhase := rfl
@[simp] theorem delay_txByte (us : Nat) (s : State) :
    (delay us s).txByte = s.txByte := rfl
@[simp] theorem delay_clkLo (us : Nat) (s : State) :
    (delay us s).clkLo = s.clkLo := rfl
@[simp] theorem delay_datLo (us : Nat) (s : State) :
    (delay us s).datLo = s.datLo := rfl
@[simp] theorem delay_buf (us : Nat) (s : State) :
    (delay us s).buf = s.buf := rfl
@[simp] theorem delay_cqHead (us : Nat) (s : State) :
    (delay us s).cqHead = s.cqHead := rfl
@[simp] theorem delay_cqTail (us : Nat) (s : State) :
    (delay us s).cqTail = s.cqTail := rfl
@[simp] theorem delay_awaiting (us : Nat) (s : State) :
    (delay us s).awaiting = s.awaiting := rfl
@[simp] theorem delay_mods (us : Nat) (s : State) :
    (delay us s).mods = s.mods := rfl
@[simp] theorem delay_relPend (us : Nat) (s : State) :
    (delay us s).relPend = s.relPend := rfl
@[simp] theorem delay_leds (us : Nat) (s : State) :
    (delay us s).leds = s.leds := rfl
@[simp] theorem delay_initialised (us : Nat) (s : State) :
    (delay us s).initialised = s.initialised := rfl
@[simp] theorem delay_out (us : Nat) (s : State) :
    (delay us s).out = s.out := rfl
@[simp] theorem delay_results (us : Nat) (s : State) :
    (delay us s).results = s.results := rfl
@[simp] theorem delay_caller (us : Nat) (s : State) :
    (delay us s).caller = s.caller := rfl
@[simp] theorem delay_inputs (us : Nat) (s : State) :
    (delay us s).inputs = s.inputs := rfl
@[simp] theorem delay_freeIdx (us : Nat) (s : State) :
    (delay us s).freeIdx = s.freeIdx := rfl
@[simp] theorem delay_cfg (us : Nat) (s : State) :
    (delay us s).cfg = s.cfg := rfl

/-! ### `finishCall` -/

@[simp] theorem finishCall_rxState (s : State) :
    (finishCall s).rxState = s.rxState := rfl
@[simp] theorem finishCall_rxCount (s : State) :
    (finishCall s).rxCount = s.rxCount := rfl
@[simp] theorem finishCall_rxAcc (s : State) :
    (finishCall s).rxAcc = s.rxAcc := rfl
@[simp] theorem finishCall_rxErr (s : State) :
    (finishCall s).rxErr = s.rxErr := rfl
@[simp] theorem finishCall_prevClk (s : State) :
    (finishCall s).prevClk = s.prevClk := rfl
@[simp] theorem finishCall_txPhase (s : State) :
    (finishCall s).txPhase = s.txPhase := rfl
@[simp] theorem finishCall_txByte (s : State) :
    (finishCall s).txByte = s.txByte := rfl
@[simp] theorem finishCall_clkLo (s : State) :
    (finishCall s).clkLo = s.clkLo := rfl
@[simp] theorem finishCall_datLo (s : State) :
    (finishCall s).datLo = s.datLo := rfl
@[simp] theorem finishCall_buf (s : State) :
    (finishCall s).buf = s.buf := rfl
@[simp] theorem finishCall_cqHead (s : State) :
    (finishCall s).cqHead = s.cqHead := rfl
@[simp] theorem finishCall_cqTail (s : State) :
    (finishCall s).cqTail = s.cqTail := rfl
@[simp] theorem finishCall_awaiting (s : State) :
    (finishCall s).awaiting = s.awaiting := rfl
@[simp] theorem finishCall_mods (s : State) :
    (finishCall s).mods = s.mods := rfl
@[simp] theorem finishCall_relPend (s : State) :
    (finishCall s).relPend = s.relPend := rfl
@[simp] theorem finishCall_leds (s : State) :
    (finishCall s).leds = s.leds := rfl
@[simp] theorem finishCall_initialised (s : State) :
    (finishCall s).initialised = s.initialised := rfl
@[simp] theorem finishCall_out (s : State) :
    (finishCall s).out = s.out := rfl
@[simp] theorem finishCall_results (s : State) :
    (finishCall s).results = s.results ++ s.caller.toList := rfl
@[simp] theorem finishCall_caller (s : State) :
    (finishCall s).caller = none := rfl
@[simp] theorem finishCall_inputs (s : State) :
    (finishCall s).inputs = s.inputs := rfl
@[simp] theorem finishCall_freeIdx (s : State) :
    (finishCall s).freeIdx = s.freeIdx := rfl
@[simp] theorem finishCall_cfg (s : State) :
    (finishCall s).cfg = s.cfg := rfl

/-! ### `txBegin` -/

@[simp] theorem txBegin_rxState (v : Byte) (s : State) :
    (txBegin v s).rxState = s.rxState := rfl
@[simp] theorem txBegin_rxCount (v : Byte) (s : State) :
    (txBegin v s).rxCount = s.rxCount := rfl
@[simp] theorem txBegin_rxAcc (v : Byte) (s : State) :
    (txBegin v s).rxAcc = s.rxAcc := rfl
@[simp] theorem txBegin_rxErr (v : Byte) (s : State) :
    (txBegin v s).rxErr = s.rxErr := rfl
@[simp] theorem txBegin_prevClk (v : Byte) (s : State) :
    (txBegin v s).prevClk = s.prevClk := rfl
@[simp] theorem txBegin_txPhase (v : Byte) (s : State) :
    (txBegin v s).txPhase = .settle := rfl
@[simp] theorem txBegin_txByte (v : Byte) (s : State) :
    (txBegin v s).txByte = v := rfl
@[simp] theorem txBegin_clkLo (v : Byte) (s : State) :
    (txBegin v s).clkLo = true := rfl
@[simp] theorem txBegin_datLo (v : Byte) (s : State) :
    (txBegin v s).datLo = false := rfl
@[simp] theorem txBegin_buf (v : Byte) (s : State) :
    (txBegin v s).buf = s.buf := rfl
@[simp] theorem txBegin_cqHead (v : Byte) (s : State) :
    (txBegin v s).cqHead = s.cqHead := rfl
@[simp] theorem txBegin_cqTail (v : Byte) (s : State) :
    (txBegin v s).cqTail = s.cqTail := rfl
@[simp] theorem txBegin_awaiting (v : Byte) (s : State) :
    (txBegin v s).awaiting = s.awaiting := rfl
@[simp] theorem txBegin_mods (v : Byte) (s : State) :
    (txBegin v s).mods = s.mods := rfl
@[simp] theorem txBegin_relPend (v : Byte) (s : State) :
    (txBegin v s).relPend = s.relPend := rfl
@[simp] theorem txBegin_leds (v : Byte) (s : State) :
    (txBegin v s).leds = s.leds := rfl
@[simp] theorem txBegin_initialised (v : Byte) (s : State) :
    (txBegin v s).initialised = s.initialised := rfl
@[simp] theorem txBegin_out (v : Byte) (s : State) :
    (txBegin v s).out = s.out := rfl
@[simp] theorem txBegin_results (v : Byte) (s : State) :
    (txBegin v s).results = s.results := rfl
@[simp] theorem txBegin_caller (v : Byte) (s : State) :
    (txBegin v s).caller = s.caller := rfl
@[simp] theorem txBegin_inputs (v : Byte) (s : State) :
    (txBegin v s).inputs = s.inputs := rfl
@[simp] theorem txBegin_freeIdx (v : Byte) (s : State) :
    (txBegin v s).freeIdx = s.freeIdx := rfl
@[simp] theorem txBegin_cfg (v : Byte) (s : State) :
    (txBegin v s).cfg = s.cfg := rfl

/-! ### `txComplete` -/

@[simp] theorem txComplete_rxState (s : State) :
    (txComplete s).rxState = s.rxState := rfl
@[simp] theorem txComplete_rxCount (s : State) :
    (txComplete s).rxCount = s.rxCount := rfl
@[simp] theorem txComplete_rxAcc (s : State) :
    (txComplete s).rxAcc = s.rxAcc := rfl
@[simp] theorem txComplete_rxErr (s : State) :
    (txComplete s).rxErr = s.rxErr := rfl
@[simp] theorem txComplete_prevClk (s : State) :
    (txComplete s).prevClk = s.prevClk := rfl
@[simp] theorem txComplete_txPhase (s : State) :
    (txComplete s).txPhase = .idle := rfl
@[simp] theorem txComplete_txByte (s : State) :
    (txComplete s).txByte = s.txByte := rfl
@[simp] theorem txComplete_clkLo (s : State) :
    (txComplete s).clkLo = s.clkLo := rfl
@[simp] theorem txComplete_datLo (s : State) :
    (txComplete s).datLo = s.datLo := rfl
@[simp] theorem txComplete_buf (s : State) :
    (txComplete s).buf = s.buf := rfl
@[simp] theorem txComplete_cqHead (s : State) :
    (txComplete s).cqHead = s.cqHead := rfl
@[simp] theorem txComplete_cqTail (s : State) :
    (txComplete s).cqTail = s.cqTail := rfl
@[simp] theorem txComplete_awaiting (s : State) :
    (txComplete s).awaiting = s.awaiting := rfl
@[simp] theorem txComplete_mods (s : State) :
    (txComplete s).mods = s.mods := rfl
@[simp] theorem txComplete_relPend (s : State) :
    (txComplete s).relPend = s.relPend := rfl
@[simp] theorem txComplete_leds (s : State) :
    (txComplete s).leds = s.leds := rfl
@[simp] theorem txComplete_initialised (s : State) :
    (txComplete s).initialised = s.initialised := rfl
@[simp] theorem txComplete_out (s : State) :
    (txComplete s).out = s.out := rfl
@[simp] theorem txComplete_results (s : State) :
    (txComplete s).results = s.results ++ s.caller.toList := rfl
@[simp] theorem txComplete_caller (s : State) :
    (txComplete s).caller = none := rfl
@[simp] theorem txComplete_inputs (s : State) :
    (txComplete s).inputs = s.inputs := rfl
@[simp] theorem txComplete_freeIdx (s : State) :
    (txComplete s).freeIdx = s.freeIdx := rfl
@[simp] theorem txComplete_cfg (s : State) :
    (txComplete s).cfg = s.cfg := rfl

/-! ### `discardQueue` -/

@[simp] theorem discardQueue_rxState (s : State) :
    (discardQueue s).rxState = s.rxState := rfl
@[simp] theorem discardQueue_rxCount (s : State) :
    (discardQueue s).rxCount = s.rxCount := rfl
@[simp] theorem discardQueue_rxAcc (s : State) :
    (discardQueue s).rxAcc = s.rxAcc := rfl
@[simp] theorem discardQueue_rxErr (s : State) :
    (discardQueue s).rxErr = s.rxErr := rfl
@[simp] theorem discardQueue_prevClk (s : State) :
    (discardQueue s).prevClk = s.prevClk := rfl
@[simp] theorem discardQueue_txPhase (s : State) :
    (discardQueue s).txPhase = s.txPhase := rfl
@[simp] theorem discardQueue_txByte (s : State) :
    (discardQueue s).txByte = s.txByte := rfl
@[simp] theorem discardQueue_clkLo (s : State) :
    (discardQueue s).clkLo = s.clkLo := rfl
@[simp] theorem discardQueue_datLo (s : State) :
    (discardQueue s).datLo = s.datLo := rfl
@[simp] theorem discardQueue_buf (s : State) :
    (discardQueue s).buf = s.buf := rfl
@[simp] theorem discardQueue_cqHead (s : State) :
    (discardQueue s).cqHead = 0 := rfl
@[simp] theorem discardQueue_cqTail (s : State) :
    (discardQueue s).cqTail = 0 := rfl
@[simp] theorem discardQueue_awaiting (s : State) :
    (discardQueue s).awaiting = false := rfl
@[simp] theorem discardQueue_mods (s : State) :
    (discardQueue s).mods = s.mods := rfl
@[simp] theorem discardQueue_relPend (s : State) :
    (discardQueue s).relPend = s.relPend := rfl
@[simp] theorem discardQueue_leds (s : State) :
    (discardQueue s).leds = s.leds := rfl
@[simp] theorem discardQueue_initialised (s : State) :
    (discardQueue s).initialised = s.initialised := rfl
@[simp] theorem discardQueue_out (s : State) :
    (discardQueue s).out = s.out := rfl
@[simp] theorem discardQueue_results (s : State) :
    (discardQueue s).results = s.results := rfl
@[simp] theorem discardQueue_caller (s : State) :
    (discardQueue s).caller = s.caller := rfl
@[simp] theorem discardQueue_inputs (s : State) :
    (discardQueue s).inputs = s.inputs := rfl
@[simp] theorem discardQueue_freeIdx (s : State) :
    (discardQueue s).freeIdx = s.freeIdx := rfl
@[simp] theorem discardQueue_cfg (s : State) :
    (discardQueue s).cfg = s.cfg := rfl

/-! ### `send` -/

@[simp] theorem send_rxState (v : Byte) (s : State) :
    (send v s).rxState = s.rxState := rfl
@[simp] theorem send_rxCount (v : Byte) (s : State) :
    (send v s).rxCount = s.rxCount := rfl
@[simp] theorem send_rxAcc (v : Byte) (s : State) :
    (send v s).rxAcc = s.rxAcc := rfl
@[simp] theorem send_rxErr (v : Byte) (s : State) :
    (send v s).rxErr = s.rxErr := rfl
@[simp] theorem send_prevClk (v : Byte) (s : State) :
    (send v s).prevClk = s.prevClk := rfl
@[simp] theorem send_txPhase (v : Byte) (s : State) :
    (send v s).txPhase = .settle := rfl
@[simp] theorem send_txByte (v : Byte) (s : State) :
    (send v s).txByte = v := rfl
@[simp] theorem send_clkLo (v : Byte) (s : State) :
    (send v s).clkLo = true := rfl
@[simp] theorem send_datLo (v : Byte) (s : State) :
    (send v s).datLo = false := rfl
@[simp] theorem send_buf (v : Byte) (s : State) :
    (send v s).buf = s.buf := rfl
@[simp] theorem send_cqHead (v : Byte) (s : State) :
    (send v s).cqHead = s.cqHead := rfl
@[simp] theorem send_cqTail (v : Byte) (s : State) :
    (send v s).cqTail = s.cqTail := rfl
@[simp] theorem send_awaiting (v : Byte) (s : State) :
    (send v s).awaiting = true := rfl
@[simp] theorem send_mods (v : Byte) (s : State) :
    (send v s).mods = s.mods := rfl
@[simp] theorem send_relPend (v : Byte) (s : State) :
    (send v s).relPend = s.relPend := rfl
@[simp] theorem send_leds (v : Byte) (s : State) :
    (send v s).leds = s.leds := rfl
@[simp] theorem send_initialised (v : Byte) (s : State) :
    (send v s).initialised = s.initialised := rfl
@[simp] theorem send_out (v : Byte) (s : State) :
    (send v s).out = s.out := rfl
@[simp] theorem send_results (v : Byte) (s : State) :
    (send v s).results = s.results := rfl
@[simp] theorem send_caller (v : Byte) (s : State) :
    (send v s).caller = s.caller := rfl
@[simp] theorem send_inputs (v : Byte) (s : State) :
    (send v s).inputs = s.inputs := rfl
@[simp] theorem send_freeIdx (v : Byte) (s : State) :
    (send v s).freeIdx = s.freeIdx := rfl
@[simp] theorem send_cfg (v : Byte) (s : State) :
    (send v s).cfg = s.cfg := rfl

/-! ### `replyFrameError` -/

@[simp] theorem replyFrameError_rxState (s : State) :
    (replyFrameError s).rxState = s.rxState := rfl
@[simp] theorem replyFrameError_rxCount (s : State) :
    (replyFrameError s).rxCount = s.rxCount := rfl
@[simp] theorem replyFrameError_rxAcc (s : State) :
    (replyFrameError s).rxAcc = s.rxAcc := rfl
@[simp] theorem replyFrameError_rxErr (s : State) :
    (replyFrameError s).rxErr = s.rxErr := rfl
@[simp] theorem replyFrameError_prevClk (s : State) :
    (replyFrameError s).prevClk = s.prevClk := rfl
@[simp] theorem replyFrameError_txPhase (s : State) :
    (replyFrameError s).txPhase = s.txPhase := rfl
@[simp] theorem replyFrameError_txByte (s : State) :
    (replyFrameError s).txByte = s.txByte := rfl
@[simp] theorem replyFrameError_clkLo (s : State) :
    (replyFrameError s).clkLo = s.clkLo := rfl
@[simp] theorem replyFrameError_datLo (s : State) :
    (replyFrameError s).datLo = s.datLo := rfl
@[simp] theorem replyFrameError_buf (s : State) :
    (replyFrameError s).buf = s.buf := rfl
@[simp] theorem replyFrameError_cqHead (s : State) :
    (replyFrameError s).cqHead = 0 := rfl
@[simp] theorem replyFrameError_cqTail (s : State) :
    (replyFrameError s).cqTail = 0 := rfl
@[simp] theorem replyFrameError_awaiting (s : State) :
    (replyFrameError s).awaiting = false := rfl
@[simp] theorem replyFrameError_mods (s : State) :
    (replyFrameError s).mods = s.mods := rfl
@[simp] theorem replyFrameError_relPend (s : State) :
    (replyFrameError s).relPend = s.relPend := rfl
@[simp] theorem replyFrameError_leds (s : State) :
    (replyFrameError s).leds = s.leds := rfl
@[simp] theorem replyFrameError_initialised (s : State) :
    (replyFrameError s).initialised = s.initialised := rfl
@[simp] theorem replyFrameError_out (s : State) :
    (replyFrameError s).out = s.out ++ [.diag .replyFrame] := rfl
@[simp] theorem replyFrameError_results (s : State) :
    (replyFrameError s).results = s.results := rfl
@[simp] theorem replyFrameError_caller (s : State) :
    (replyFrameError s).caller = s.caller := rfl
@[simp] theorem replyFrameError_inputs (s : State) :
    (replyFrameError s).inputs = s.inputs := rfl
@[simp] theorem replyFrameError_freeIdx (s : State) :
    (replyFrameError s).freeIdx = s.freeIdx := rfl
@[simp] theorem replyFrameError_cfg (s : State) :
    (replyFrameError s).cfg = s.cfg := rfl

/-! ### `replyOther` -/

@[simp] theorem replyOther_rxState (v : Byte) (s : State) :
    (replyOther v s).rxState = s.rxState := rfl
@[simp] theorem replyOther_rxCount (v : Byte) (s : State) :
    (replyOther v s).rxCount = s.rxCount := rfl
@[simp] theorem replyOther_rxAcc (v : Byte) (s : State) :
    (replyOther v s).rxAcc = s.rxAcc := rfl
@[simp] theorem replyOther_rxErr (v : Byte) (s : State) :
    (replyOther v s).rxErr = s.rxErr := rfl
@[simp] theorem replyOther_prevClk (v : Byte) (s : State) :
    (replyOther v s).prevClk = s.prevClk := rfl
@[simp] theorem replyOther_txPhase (v : Byte) (s : State) :
    (replyOther v s).txPhase = s.txPhase := rfl
@[simp] theorem replyOther_txByte (v : Byte) (s : State) :
    (replyOther v s).txByte = s.txByte := rfl
@[simp] theorem replyOther_clkLo (v : Byte) (s : State) :
    (replyOther v s).clkLo = s.clkLo := rfl
@[simp] theorem replyOther_datLo (v : Byte) (s : State) :
    (replyOther v s).datLo = s.datLo := rfl
@[simp] theorem replyOther_buf (v : Byte) (s : State) :
    (replyOther v s).buf = s.buf := rfl
@[simp] theorem replyOther_cqHead (v : Byte) (s : State) :
    (replyOther v s).cqHead = 0 := rfl
@[simp] theorem replyOther_cqTail (v : Byte) (s : State) :
    (replyOther v s).cqTail = 0 := rfl
@[simp] theorem replyOther_awaiting (v : Byte) (s : State) :
    (replyOther v s).awaiting = false := rfl
@[simp] theorem replyOther_mods (v : Byte) (s : State) :
    (replyOther v s).mods = s.mods := rfl
@[simp] theorem replyOther_relPend (v : Byte) (s : State) :
    (replyOther v s).relPend = s.relPend := rfl
@[simp] theorem replyOther_leds (v : Byte) (s : State) :
    (replyOther v s).leds = s.leds := rfl
@[simp] theorem replyOther_initialised (v : Byte) (s : State) :
    (replyOther v s).initialised = s.initialised := rfl
@[simp] theorem replyOther_out (v : Byte) (s : State) :
    (replyOther v s).out = s.out ++ [.diagByte .unexpectedReply v] := rfl
@[simp] theorem replyOther_results (v : Byte) (s : State) :
    (replyOther v s).results = s.results := rfl
@[simp] theorem replyOther_caller (v : Byte) (s : State) :
    (replyOther v s).caller = s.caller := rfl
@[simp] theorem replyOther_inputs (v : Byte) (s : State) :
    (replyOther v s).inputs = s.inputs := rfl
@[simp] theorem replyOther_freeIdx (v : Byte) (s : State) :
    (replyOther v s).freeIdx = s.freeIdx := rfl
@[simp] theorem replyOther_cfg (v : Byte) (s : State) :
    (replyOther v s).cfg = s.cfg := rfl

/-! ### `clearRelease` -/

@[simp] theorem clearRelease_rxState (s : State) :
    (clearRelease s).rxState = s.rxState := rfl
@[simp] theorem clearRelease_rxCount (s : State) :
    (clearRelease s).rxCount = s.rxCount := rfl
@[simp] theorem clearRelease_rxAcc (s : State) :
    (clearRelease s).rxAcc = s.rxAcc := rfl
@[simp] theorem clearRelease_rxErr (s : State) :
    (clearRelease s).rxErr = s.rxErr := rfl
@[simp] theorem clearRelease_prevClk (s : State) :
    (clearRelease s).prevClk = s.prevClk := rfl
@[simp] theorem clearRelease_txPhase (s : State) :
    (clearRelease s).txPhase = s.txPhase := rfl
@[simp] theorem clearRelease_txByte (s : State) :
    (clearRelease s).txByte = s.txByte := rfl
@[simp] theorem clearRelease_clkLo (s : State) :
    (clearRelease s).clkLo = s.clkLo := rfl
@[simp] theorem clearRelease_datLo (s : State) :
    (clearRelease s).datLo = s.datLo := rfl
@[simp] theorem clearRelease_buf (s : State) :
    (clearRelease s).buf = s.buf := rfl
@[simp] theorem clearRelease_cqHead (s : State) :
    (clearRelease s).cqHead = s.cqHead := rfl
@[simp] theorem clearRelease_cqTail (s : State) :
    (clearRelease s).cqTail = s.cqTail := rfl
@[simp] theorem clearRelease_awaiting (s : State) :
    (clearRelease s).awaiting = s.awaiting := rfl
@[simp] theorem clearRelease_mods (s : State) :
    (clearRelease s).mods = s.mods := rfl
@[simp] theorem clearRelease_relPend (s : State) :
    (clearRelease s).relPend = false := rfl
@[simp] theorem clearRelease_leds (s : State) :
    (clearRelease s).leds = s.leds := rfl
@[simp] theorem clearRelease_initialised (s : State) :
    (clearRelease s).initialised = s.initialised := rfl
@[simp] theorem clearRelease_out (s : State) :
    (clearRelease s).out = s.out := rfl
@[simp] theorem clearRelease_results (s : State) :
    (clearRelease s).results = s.results := rfl
@[simp] theorem clearRelease_caller (s : State) :
    (clearRelease s).caller = s.caller := rfl
@[simp] theorem clearRelease_inputs (s : State) :
    (clearRelease s).inputs = s.inputs := rfl
@[simp] theorem clearRelease_freeIdx (s : State) :
    (clearRelease s).freeIdx = s.freeIdx := rfl
@[simp] theorem clearRelease_cfg (s : State) :
    (clearRelease s).cfg = s.cfg := rfl

/-! ### `keyBreak` -/

@[simp] theorem keyBreak_rxState (s : State) :
    (keyBreak s).rxState = s.rxState := rfl
@[simp] theorem keyBreak_rxCount (s : State) :
    (keyBreak s).rxCount = s.rxCount := rfl
@[simp] theorem keyBreak_rxAcc (s : State) :
    (keyBreak s).rxAcc = s.rxAcc := rfl
@[simp] theorem keyBreak_rxErr (s : State) :
    (keyBreak s).rxErr = s.rxErr := rfl
@[simp] theorem keyBreak_prevClk (s : State) :
    (keyBreak s).prevClk = s.prevClk := rfl
@[simp] theorem keyBreak_txPhase (s : State) :
    (keyBreak s).txPhase = s.txPhase := rfl
@[simp] theorem keyBreak_txByte (s : State) :
    (keyBreak s).txByte = s.txByte := rfl
@[simp] theorem keyBreak_clkLo (s : State) :
    (keyBreak s).clkLo = s.clkLo := rfl
@[simp] theorem keyBreak_datLo (s : State) :
    (keyBreak s).datLo = s.datLo := rfl
@[simp] theorem keyBreak_buf (s : State) :
    (keyBreak s).buf = s.buf := rfl
@[simp] theorem keyBreak_cqHead (s : State) :
    (keyBreak s).cqHead = s.cqHead := rfl
@[simp] theorem keyBreak_cqTail (s : State) :
    (keyBreak s).cqTail = s.cqTail := rfl
@[simp] theorem keyBreak_awaiting (s : State) :
    (keyBreak s).awaiting = s.awaiting := rfl
@[simp] theorem keyBreak_mods (s : State) :
    (keyBreak s).mods = s.mods := rfl
@[simp] theorem keyBreak_relPend (s : State) :
    (keyBreak s).relPend = true := rfl
@[simp] theorem keyBreak_leds (s : State) :
    (keyBreak s).leds = s.leds := rfl
@[simp] theorem keyBreak_initialised (s : State) :
    (keyBreak s).initialised = s.initialised := rfl
@[simp] theorem keyBreak_out (s : State) :
    (keyBreak s).out = s.out := rfl
@[simp] theorem keyBreak_results (s : State) :
    (keyBreak s).results = s.results := rfl
@[simp] theorem keyBreak_caller (s : State) :
    (keyBreak s).caller = s.caller := rfl
@[simp] theorem keyBreak_inputs (s : State) :
    (keyBreak s).inputs = s.inputs := rfl
@[simp] theorem keyBreak_freeIdx (s : State) :
    (keyBreak s).freeIdx = s.freeIdx := rfl
@[simp] theorem keyBreak_cfg (s : State) :
    (keyBreak s).cfg = s.cfg := rfl

/-! ### `setLeft` -/

@[simp] theorem setLeft_rxState (h : Bool) (s : State) :
    (setLeft h s).rxState = s.rxState := rfl
@[simp] theorem setLeft_rxCount (h : Bool) (s : State) :
    (setLeft h s).rxCount = s.rxCount := rfl
@[simp] theorem setLeft_rxAcc (h : Bool) (s : State) :
    (setLeft h s).rxAcc = s.rxAcc := rfl
@[simp] theorem setLeft_rxErr (h : Bool) (s : State) :
    (setLeft h s).rxErr = s.rxErr := rfl
@[simp] theorem setLeft_prevClk (h : Bool) (s : State) :
    (setLeft h s).prevClk = s.prevClk := rfl
@[simp] theorem setLeft_txPhase (h : Bool) (s : State) :
    (setLeft h s).txPhase = s.txPhase := rfl
@[simp] theorem setLeft_txByte (h : Bool) (s : State) :
    (setLeft h s).txByte = s.txByte := rfl
@[simp] theorem setLeft_clkLo (h : Bool) (s : State) :
    (setLeft h s).clkLo = s.clkLo := rfl
@[simp] theorem setLeft_datLo (h : Bool) (s : State) :
    (setLeft h s).datLo = s.datLo := rfl
@[simp] theorem setLeft_buf (h : Bool) (s : State) :
    (setLeft h s).buf = s.buf := rfl
@[simp] theorem setLeft_cqHead (h : Bool) (s : State) :
    (setLeft h s).cqHead = s.cqHead := rfl
@[simp] theorem setLeft_cqTail (h : Bool) (s : State) :
    (setLeft h s).cqTail = s.cqTail := rfl
@[simp] theorem setLeft_awaiting (h : Bool) (s : State) :
    (setLeft h s).awaiting = s.awaiting := rfl
@[simp] theorem setLeft_mods (h : Bool) (s : State) :
    (setLeft h s).mods = { s.mods with left := h } := rfl
@[simp] theorem setLeft_relPend (h : Bool) (s : State) :
    (setLeft h s).relPend = s.relPend := rfl
@[simp] theorem setLeft_leds (h : Bool) (s : State) :
    (setLeft h s).leds = s.leds := rfl
@[simp] theorem setLeft_initialised (h : Bool) (s : State) :
    (setLeft h s).initialised = s.initialised := rfl
@[simp] theorem setLeft_out (h : Bool) (s : State) :
    (setLeft h s).out = s.out := rfl
@[simp] theorem setLeft_results (h : Bool) (s : State) :
    (setLeft h s).results = s.results := rfl
@[simp] theorem setLeft_caller (h : Bool) (s : State) :
    (setLeft h s).caller = s.caller := rfl
@[simp] theorem setLeft_inputs (h : Bool) (s : State) :
    (setLeft h s).inputs = s.inputs := rfl
@[simp] theorem setLeft_freeIdx (h : Bool) (s : State) :
    (setLeft h s).freeIdx = s.freeIdx := rfl
@[simp] theorem setLeft_cfg (h : Bool) (s : State) :
    (setLeft h s).cfg = s.cfg := rfl

/-! ### `setRight` -/

@[simp] theorem setRight_rxState (h : Bool) (s : State) :
    (setRight h s).rxState = s.rxState := rfl
@[simp] theorem setRight_rxCount (h : Bool) (s : State) :
    (setRight h s).rxCount = s.rxCount := rfl
@[simp] theorem setRight_rxAcc (h : Bool) (s : State) :
    (setRight h s).rxAcc = s.rxAcc := rfl
@[simp] theorem setRight_rxErr (h : Bool) (s : State) :
    (setRight h s).rxErr = s.rxErr := rfl
@[simp] theorem setRight_prevClk (h : Bool) (s : State) :
    (setRight h s).prevClk = s.prevClk := rfl
@[simp] theorem setRight_txPhase (h : Bool) (s : State) :
    (setRight h s).txPhase = s.txPhase := rfl
@[simp] theorem setRight_txByte (h : Bool) (s : State) :
    (setRight h s).txByte = s.txByte := rfl
@[simp] theorem setRight_clkLo (h : Bool) (s : State) :
    (setRight h s).clkLo = s.clkLo := rfl
@[simp] theorem setRight_datLo (h : Bool) (s : State) :
    (setRight h s).datLo = s.datLo := rfl
@[simp] theorem setRight_buf (h : Bool) (s : State) :
    (setRight h s).buf = s.buf := rfl
@[simp] theorem setRight_cqHead (h : Bool) (s : State) :
    (setRight h s).cqHead = s.cqHead := rfl
@[simp] theorem setRight_cqTail (h : Bool) (s : State) :
    (setRight h s).cqTail = s.cqTail := rfl
@[simp] theorem setRight_awaiting (h : Bool) (s : State) :
    (setRight h s).awaiting = s.awaiting := rfl
@[simp] theorem setRight_mods (h : Bool) (s : State) :
    (setRight h s).mods = { s.mods with right := h } := rfl
@[simp] theorem setRight_relPend (h : Bool) (s : State) :
    (setRight h s).relPend = s.relPend := rfl
@[simp] theorem setRight_leds (h : Bool) (s : State) :
    (setRight h s).leds = s.leds := rfl
@[simp] theorem setRight_initialised (h : Bool) (s : State) :
    (setRight h s).initialised = s.initialised := rfl
@[simp] theorem setRight_out (h : Bool) (s : State) :
    (setRight h s).out = s.out := rfl
@[simp] theorem setRight_results (h : Bool) (s : State) :
    (setRight h s).results = s.results := rfl
@[simp] theorem setRight_caller (h : Bool) (s : State) :
    (setRight h s).caller = s.caller := rfl
@[simp] theorem setRight_inputs (h : Bool) (s : State) :
    (setRight h s).inputs = s.inputs := rfl
@[simp] theorem setRight_freeIdx (h : Bool) (s : State) :
    (setRight h s).freeIdx = s.freeIdx := rfl
@[simp] theorem setRight_cfg (h : Bool) (s : State) :
    (setRight h s).cfg = s.cfg := rfl

/-! ### `rxReset` -/

@[simp] theorem rxReset_rxState (s : State) :
    (rxReset s).rxState = .idle := rfl
@[simp] theorem rxReset_rxCount (s : State) :
    (rxReset s).rxCount = 0 := rfl
@[simp] theorem rxReset_rxAcc (s : State) :
    (rxReset s).rxAcc = 0x00 := rfl
@[simp] theorem rxReset_rxErr (s : State) :
    (rxReset s).rxErr = .none := rfl
@[simp] theorem rxReset_prevClk (s : State) :
    (rxReset s).prevClk = s.prevClk := rfl
@[simp] theorem rxReset_txPhase (s : State) :
    (rxReset s).txPhase = s.txPhase := rfl
@[simp] theorem rxReset_txByte (s : State) :
    (rxReset s).txByte = s.txByte := rfl
@[simp] theorem rxReset_clkLo (s : State) :
    (rxReset s).clkLo = s.clkLo := rfl
@[simp] theorem rxReset_datLo (s : State) :
    (rxReset s).datLo = s.datLo := rfl
@[simp] theorem rxReset_buf (s : State) :
    (rxReset s).buf = s.buf := rfl
@[simp] theorem rxReset_cqHead (s : State) :
    (rxReset s).cqHead = s.cqHead := rfl
@[simp] theorem rxReset_cqTail (s : State) :
    (rxReset s).cqTail = s.cqTail := rfl
@[simp] theorem rxReset_awaiting (s : State) :
    (rxReset s).awaiting = s.awaiting := rfl
@[simp] theorem rxReset_mods (s : State) :
    (rxReset s).mods = s.mods := rfl
@[simp] theorem rxReset_relPend (s : State) :
    (rxReset s).relPend = s.relPend := rfl
@[simp] theorem rxReset_leds (s : State) :
    (rxReset s).leds = s.leds := rfl
@[simp] theorem rxReset_initialised (s : State) :
    (rxReset s).initialised = s.initialised := rfl
@[simp] theorem rxReset_out (s : State) :
    (rxReset s).out = s.out := rfl
@[simp] theorem rxReset_results (s : State) :
    (rxReset s).results = s.results := rfl
@[simp] theorem rxReset_caller (s : State) :
    (rxReset s).caller = s.caller := rfl
@[simp] theorem rxReset_inputs (s : State) :
    (rxReset s).inputs = s.inputs := rfl
@[simp] theorem rxReset_freeIdx (s : State) :
    (rxReset s).freeIdx = s.freeIdx := rfl
@[simp] theorem rxReset_cfg (s : State) :
    (rxReset s).cfg = s.cfg := rfl

/-! ### Conditional updates -/

@[simp] theorem recordErr_rxState (k : RxErr) (s : State) :
    (recordErr k s).rxState = s.rxState := by
  unfold recordErr; split <;> simp_all
@[simp] theorem recordErr_rxCount (k : RxErr) (s : State) :
    (recordErr k s).rxCount = s.rxCount := by
  unfold recordErr; split <;> simp_all
@[simp] theorem recordErr_rxAcc (k : RxErr) (s : State) :
    (recordErr k s).rxAcc = s.rxAcc := by
  unfold recordErr; split <;> simp_all
@[simp] theorem recordErr_rxErr (k : RxErr) (s : State) :
    (recordErr k s).rxErr = if s.rxErr = .none then k else s.rxErr := by
  unfold recordErr; split <;> simp_all
@[simp] theorem recordErr_prevClk (k : RxErr) (s : State) :
    (recordErr k s).prevClk = s.prevClk := by
  unfold recordErr; split <;> simp_all
@[simp] theorem recordErr_txPhase (k : RxErr) (s : State) :
    (recordErr k s).txPhase = s.txPhase := by
  unfold recordErr; split <;> simp_all
@[simp] theorem recordErr_txByte (k : RxErr) (s : State) :
    (recordErr k s).txByte = s.txByte := by
  unfold recordErr; split <;> simp_all
@[simp] theorem recordErr_clkLo (k : RxErr) (s : State) :
    (recordErr k s).clkLo = s.clkLo := by
  unfold recordErr; split <;> simp_all
@[simp] theorem recordErr_datLo (k : RxErr) (s : State) :
    (recordErr k s).datLo = s.datLo := by
  unfold recordErr; split <;> simp_all
@[simp] theorem recordErr_buf (k : RxErr) (s : State) :
    (recordErr k s).buf = s.buf := by
  unfold recordErr; split <;> simp_all
@[simp] theorem recordErr_cqHead (k : RxErr) (s : State) :
    (recordErr k s).cqHead = s.cqHead := by
  unfold recordErr; split <;> simp_all
@[simp] theorem recordErr_cqTail (k : RxErr) (s : State) :
    (recordErr k s).cqTail = s.cqTail := by
  unfold recordErr; split <;> simp_all
@[simp] theorem recordErr_awaiting (k : RxErr) (s : State) :
    (recordErr k s).awaiting = s.awaiting := by
  unfold recordErr; split <;> simp_all
@[simp] theorem recordErr_mods (k : RxErr) (s : State) :
    (recordErr k s).mods = s.mods := by
  unfold recordErr; split <;> simp_all
@[simp] theorem recordErr_relPend (k : RxErr) (s : State) :
    (recordErr k s).relPend = s.relPend := by
  unfold recordErr; split <;> simp_all
@[simp] theorem recordErr_leds (k : RxErr) (s : State) :
    (recordErr k s).leds = s.leds := by
  unfold recordErr; split <;> simp_all
@[simp] theorem recordErr_initialised (k : RxErr) (s : State) :
    (recordErr k s).initialised = s.initialised := by
  unfold recordErr; split <;> simp_all
@[simp] theorem recordErr_out (k : RxErr) (s : State) :
    (recordErr k s).out = s.out := by
  unfold recordErr; split <;> simp_all
@[simp] theorem recordErr_results (k : RxErr) (s : State) :
    (recordErr k s).results = s.results := by
  unfold recordErr; split <;> simp_all
@[simp] theorem recordErr_caller (k : RxErr) (s : State) :
    (recordErr k s).caller = s.caller := by
  unfold recordErr; split <;> simp_all
@[simp] theorem recordErr_inputs (k : RxErr) (s : State) :
    (recordErr k s).inputs = s.inputs := by
  unfold recordErr; split <;> simp_all
@[simp] theorem recordErr_freeIdx (k : RxErr) (s : State) :
    (recordErr k s).freeIdx = s.freeIdx := by
  unfold recordErr; split <;> simp_all
@[simp] theorem recordErr_cfg (k : RxErr) (s : State) :
    (recordErr k s).cfg = s.cfg := by
  unfold recordErr; split <;> simp_all

@[simp] theorem returnResult_rxState (r : OpResult) (s : State) :
    (returnResult r s).rxState = s.rxState := by
  unfold returnResult; split <;> simp_all
@[simp] theorem returnResult_rxCount (r : OpResult) (s : State) :
    (returnResult r s).rxCount = s.rxCount := by
  unfold returnResult; split <;> simp_all
@[simp] theorem returnResult_rxAcc (r : OpResult) (s : State) :
    (returnResult r s).rxAcc = s.rxAcc := by
  unfold returnResult; split <;> simp_all
@[simp] theorem returnResult_rxErr (r : OpResult) (s : State) :
    (returnResult r s).rxErr = s.rxErr := by
  unfold returnResult; split <;> simp_all
@[simp] theorem returnResult_prevClk (r : OpResult) (s : State) :
    (returnResult r s).prevClk = s.prevClk := by
  unfold returnResult; split <;> simp_all
@[simp] theorem returnResult_txPhase (r : OpResult) (s : State) :
    (returnResult r s).txPhase = s.txPhase := by
  unfold returnResult; split <;> simp_all
@[simp] theorem returnResult_txByte (r : OpResult) (s : State) :
    (returnResult r s).txByte = s.txByte := by
  unfold returnResult; split <;> simp_all
@[simp] theorem returnResult_clkLo (r : OpResult) (s : State) :
    (returnResult r s).clkLo = s.clkLo := by
  unfold returnResult; split <;> simp_all
@[simp] theorem returnResult_datLo (r : OpResult) (s : State) :
    (returnResult r s).datLo = s.datLo := by
  unfold returnResult; split <;> simp_all
@[simp] theorem returnResult_buf (r : OpResult) (s : State) :
    (returnResult r s).buf = s.buf := by
  unfold returnResult; split <;> simp_all
@[simp] theorem returnResult_cqHead (r : OpResult) (s : State) :
    (returnResult r s).cqHead = s.cqHead := by
  unfold returnResult; split <;> simp_all
@[simp] theorem returnResult_cqTail (r : OpResult) (s : State) :
    (returnResult r s).cqTail = s.cqTail := by
  unfold returnResult; split <;> simp_all
@[simp] theorem returnResult_awaiting (r : OpResult) (s : State) :
    (returnResult r s).awaiting = s.awaiting := by
  unfold returnResult; split <;> simp_all
@[simp] theorem returnResult_mods (r : OpResult) (s : State) :
    (returnResult r s).mods = s.mods := by
  unfold returnResult; split <;> simp_all
@[simp] theorem returnResult_relPend (r : OpResult) (s : State) :
    (returnResult r s).relPend = s.relPend := by
  unfold returnResult; split <;> simp_all
@[simp] theorem returnResult_leds (r : OpResult) (s : State) :
    (returnResult r s).leds = s.leds := by
  unfold returnResult; split <;> simp_all
@[simp] theorem returnResult_initialised (r : OpResult) (s : State) :
    (returnResult r s).initialised = s.initialised := by
  unfold returnResult; split <;> simp_all
@[simp] theorem returnResult_out (r : OpResult) (s : State) :
    (returnResult r s).out = s.out := by
  unfold returnResult; split <;> simp_all
@[simp] theorem returnResult_results (r : OpResult) (s : State) :
    (returnResult r s).results = if s.txPhase = .idle then s.results ++ [r] else s.results := by
  unfold returnResult; split <;> simp_all
@[simp] theorem returnResult_caller (r : OpResult) (s : State) :
    (returnResult r s).caller = if s.txPhase = .idle then s.caller else some r := by
  unfold returnResult; split <;> simp_all
@[simp] theorem returnResult_inputs (r : OpResult) (s : State) :
    (returnResult r s).inputs = s.inputs := by
  unfold returnResult; split <;> simp_all
@[simp] theorem returnResult_freeIdx (r : OpResult) (s : State) :
    (returnResult r s).freeIdx = s.freeIdx := by
  unfold returnResult; split <;> simp_all
@[simp] theorem returnResult_cfg (r : OpResult) (s : State) :
    (returnResult r s).cfg = s.cfg := by
  unfold returnResult; split <;> simp_all

@[simp] theorem emitFramingDiag_rxState (s : State) :
    (emitFramingDiag s).rxState = s.rxState := by
  unfold emitFramingDiag; split <;> rfl
@[simp] theorem emitFramingDiag_rxCount (s : State) :
    (emitFramingDiag s).rxCount = s.rxCount := by
  unfold emitFramingDiag; split <;> rfl
@[simp] theorem emitFramingDiag_rxAcc (s : State) :
    (emitFramingDiag s).rxAcc = s.rxAcc := by
  unfold emitFramingDiag; split <;> rfl
@[simp] theorem emitFramingDiag_rxErr (s : State) :
    (emitFramingDiag s).rxErr = s.rxErr := by
  unfold emitFramingDiag; split <;> rfl
@[simp] theorem emitFramingDiag_prevClk (s : State) :
    (emitFramingDiag s).prevClk = s.prevClk := by
  unfold emitFramingDiag; split <;> rfl
@[simp] theorem emitFramingDiag_txPhase (s : State) :
    (emitFramingDiag s).txPhase = s.txPhase := by
  unfold emitFramingDiag; split <;> rfl
@[simp] theorem emitFramingDiag_txByte (s : State) :
    (emitFramingDiag s).txByte = s.txByte := by
  unfold emitFramingDiag; split <;> rfl
@[simp] theorem emitFramingDiag_clkLo (s : State) :
    (emitFramingDiag s).clkLo = s.clkLo := by
  unfold emitFramingDiag; split <;> rfl
@[simp] theorem emitFramingDiag_datLo (s : State) :
    (emitFramingDiag s).datLo = s.datLo := by
  unfold emitFramingDiag; split <;> rfl
@[simp] theorem emitFramingDiag_buf (s : State) :
    (emitFramingDiag s).buf = s.buf := by
  unfold emitFramingDiag; split <;> rfl
@[simp] theorem emitFramingDiag_cqHead (s : State) :
    (emitFramingDiag s).cqHead = s.cqHead := by
  unfold emitFramingDiag; split <;> rfl
@[simp] theorem emitFramingDiag_cqTail (s : State) :
    (emitFramingDiag s).cqTail = s.cqTail := by
  unfold emitFramingDiag; split <;> rfl
@[simp] theorem emitFramingDiag_awaiting (s : State) :
    (emitFramingDiag s).awaiting = s.awaiting := by
  unfold emitFramingDiag; split <;> rfl
@[simp] theorem emitFramingDiag_mods (s : State) :
    (emitFramingDiag s).mods = s.mods := by
  unfold emitFramingDiag; split <;> rfl
@[simp] theorem emitFramingDiag_relPend (s : State) :
    (emitFramingDiag s).relPend = s.relPend := by
  unfold emitFramingDiag; split <;> rfl
@[simp] theorem emitFramingDiag_leds (s : State) :
    (emitFramingDiag s).leds = s.leds := by
  unfold emitFramingDiag; split <;> rfl
@[simp] theorem emitFramingDiag_initialised (s : State) :
    (emitFramingDiag s).initialised = s.initialised := by
  unfold emitFramingDiag; split <;> rfl
@[simp] theorem emitFramingDiag_out (s : State) :
    (emitFramingDiag s).out = s.out ++ framingDiags s.rxErr := by
  cases h : s.rxErr <;> simp [emitFramingDiag, RxErr.code, framingDiags, h]
@[simp] theorem emitFramingDiag_results (s : State) :
    (emitFramingDiag s).results = s.results := by
  unfold emitFramingDiag; split <;> rfl
@[simp] theorem emitFramingDiag_caller (s : State) :
    (emitFramingDiag s).caller = s.caller := by
  unfold emitFramingDiag; split <;> rfl
@[simp] theorem emitFramingDiag_inputs (s : State) :
    (emitFramingDiag s).inputs = s.inputs := by
  unfold emitFramingDiag; split <;> rfl
@[simp] theorem emitFramingDiag_freeIdx (s : State) :
    (emitFramingDiag s).freeIdx = s.freeIdx := by
  unfold emitFramingDiag; split <;> rfl
@[simp] theorem emitFramingDiag_cfg (s : State) :
    (emitFramingDiag s).cfg = s.cfg := by
  unfold emitFramingDiag; split <;> rfl

@[simp] theorem rxStart_rxState (b : Level) (s : State) :
    (rxStart b s).rxState = .data := by
  cases b <;> simp [rxStart]
@[simp] theorem rxStart_rxCount (b : Level) (s : State) :
    (rxStart b s).rxCount = 0 := by
  cases b <;> simp [rxStart]
@[simp] theorem rxStart_rxAcc (b : Level) (s : State) :
    (rxStart b s).rxAcc = 0x00 := by
  cases b <;> simp [rxStart]
@[simp] theorem rxStart_rxErr (b : Level) (s : State) :
    (rxStart b s).rxErr = if b = true ∧ s.rxErr = .none then .start else s.rxErr := by
  cases b <;> simp [rxStart]
@[simp] theorem rxStart_prevClk (b : Level) (s : State) :
    (rxStart b s).prevClk = s.prevClk := by
  cases b <;> simp [rxStart]
@[simp] theorem rxStart_txPhase (b : Level) (s : State) :
    (rxStart b s).txPhase = s.txPhase := by
  cases b <;> simp [rxStart]
@[simp] theorem rxStart_txByte (b : Level) (s : State) :
    (rxStart b s).txByte = s.txByte := by
  cases b <;> simp [rxStart]
@[simp] theorem rxStart_clkLo (b : Level) (s : State) :
    (rxStart b s).clkLo = s.clkLo := by
  cases b <;> simp [rxStart]
@[simp] theorem rxStart_datLo (b : Level) (s : State) :
    (rxStart b s).datLo = s.datLo := by
  cases b <;> simp [rxStart]
@[simp] theorem rxStart_buf (b : Level) (s : State) :
    (rxStart b s).buf = s.buf := by
  cases b <;> simp [rxStart]
@[simp] theorem rxStart_cqHead (b : Level) (s : State) :
    (rxStart b s).cqHead = s.cqHead := by
  cases b <;> simp [rxStart]
@[simp] theorem rxStart_cqTail (b : Level) (s : State) :
    (rxStart b s).cqTail = s.cqTail := by
  cases b <;> simp [rxStart]
@[simp] theorem rxStart_awaiting (b : Level) (s : State) :
    (rxStart b s).awaiting = s.awaiting := by
  cases b <;> simp [rxStart]
@[simp] theorem rxStart_mods (b : Level) (s : State) :
    (rxStart b s).mods = s.mods := by
  cases b <;> simp [rxStart]
@[simp] theorem rxStart_relPend (b : Level) (s : State) :
    (rxStart b s).relPend = s.relPend := by
  cases b <;> simp [rxStart]
@[simp] theorem rxStart_leds (b : Level) (s : State) :
    (rxStart b s).leds = s.leds := by
  cases b <;> simp [rxStart]
@[simp] theorem rxStart_initialised (b : Level) (s : State) :
    (rxStart b s).initialised = s.initialised := by
  cases b <;> simp [rxStart]
@[simp] theorem rxStart_out (b : Level) (s : State) :
    (rxStart b s).out = s.out := by
  cases b <;> simp [rxStart]
@[simp] theorem rxStart_results (b : Level) (s : State) :
    (rxStart b s).results = s.results := by
  cases b <;> simp [rxStart]
@[simp] theorem rxStart_caller (b : Level) (s : State) :
    (rxStart b s).caller = s.caller := by
  cases b <;> simp [rxStart]
@[simp] theorem rxStart_inputs (b : Level) (s : State) :
    (rxStart b s).inputs = s.inputs := by
  cases b <;> simp [rxStart]
@[simp] theorem rxStart_freeIdx (b : Level) (s : State) :
    (rxStart b s).freeIdx = s.freeIdx := by
  cases b <;> simp [rxStart]
@[simp] theorem rxStart_cfg (b : Level) (s : State) :
    (rxStart b s).cfg = s.cfg := by
  cases b <;> simp [rxStart]

@[simp] theorem rxParity_rxState (b : Level) (s : State) :
    (rxParity b s).rxState = .stopBit := by
  by_cases h : b = oddpar s.rxAcc <;> simp [rxParity, h]
@[simp] theorem rxParity_rxCount (b : Level) (s : State) :
    (rxParity b s).rxCount = s.rxCount := by
  by_cases h : b = oddpar s.rxAcc <;> simp [rxParity, h]
@[simp] theorem rxParity_rxAcc (b : Level) (s : State) :
    (rxParity b s).rxAcc = s.rxAcc := by
  by_cases h : b = oddpar s.rxAcc <;> simp [rxParity, h]
@[simp] theorem rxParity_rxErr (b : Level) (s : State) :
    (rxParity b s).rxErr = if b ≠ oddpar s.rxAcc ∧ s.rxErr = .none then .parity else s.rxErr := by
  by_cases h : b = oddpar s.rxAcc <;> simp [rxParity, h]
@[simp] theorem rxParity_prevClk (b : Level) (s : State) :
    (rxParity b s).prevClk = s.prevClk := by
  by_cases h : b = oddpar s.rxAcc <;> simp [rxParity, h]
@[simp] theorem rxParity_txPhase (b : Level) (s : State) :
    (rxParity b s).txPhase = s.txPhase := by
  by_cases h : b = oddpar s.rxAcc <;> simp [rxParity, h]
@[simp] theorem rxParity_txByte (b : Level) (s : State) :
    (rxParity b s).txByte = s.txByte := by
  by_cases h : b = oddpar s.rxAcc <;> simp [rxParity, h]
@[simp] theorem rxParity_clkLo (b : Level) (s : State) :
    (rxParity b s).clkLo = s.clkLo := by
  by_cases h : b = oddpar s.rxAcc <;> simp [rxParity, h]
@[simp] theorem rxParity_datLo (b : Level) (s : State) :
    (rxParity b s).datLo = s.datLo := by
  by_cases h : b = oddpar s.rxAcc <;> simp [rxParity, h]
@[simp] theorem rxParity_buf (b : Level) (s : State) :
    (rxParity b s).buf = s.buf := by
  by_cases h : b = oddpar s.rxAcc <;> simp [rxParity, h]
@[simp] theorem rxParity_cqHead (b : Level) (s : State) :
    (rxParity b s).cqHead = s.cqHead := by
  by_cases h : b = oddpar s.rxAcc <;> simp [rxParity, h]
@[simp] theorem rxParity_cqTail (b : Level) (s : State) :
    (rxParity b s).cqTail = s.cqTail := by
  by_cases h : b = oddpar s.rxAcc <;> simp [rxParity, h]
@[simp] theorem rxParity_awaiting (b : Level) (s : State) :
    (rxParity b s).awaiting = s.awaiting := by
  by_cases h : b = oddpar s.rxAcc <;> simp [rxParity, h]
@[simp] theorem rxParity_mods (b : Level) (s : State) :
    (rxParity b s).mods = s.mods := by
  by_cases h : b = oddpar s.rxAcc <;> simp [rxParity, h]
@[simp] theorem rxParity_relPend (b : Level) (s : State) :
    (rxParity b s).relPend = s.relPend := by
  by_cases h : b = oddpar s.rxAcc <;> simp [rxParity, h]
@[simp] theorem rxParity_leds (b : Level) (s : State) :
    (rxParity b s).leds = s.leds := by
  by_cases h : b = oddpar s.rxAcc <;> simp [rxParity, h]
@[simp] theorem rxParity_initialised (b : Level) (s : State) :
    (rxParity b s).initialised = s.initialised := by
  by_cases h : b = oddpar s.rxAcc <;> simp [rxParity, h]
@[simp] theorem rxParity_out (b : Level) (s : State) :
    (rxParity b s).out = s.out := by
  by_cases h : b = oddpar s.rxAcc <;> simp [rxParity, h]
@[simp] theorem rxParity_results (b : Level) (s : State) :
    (rxParity b s).results = s.results := by
  by_cases h : b = oddpar s.rxAcc <;> simp [rxParity, h]
@[simp] theorem rxParity_caller (b : Level) (s : State) :
    (rxParity b s).caller = s.caller := by
  by_cases h : b = oddpar s.rxAcc <;> simp [rxParity, h]
@[simp] theorem rxParity_inputs (b : Level) (s : State) :
    (rxParity b s).inputs = s.inputs := by
  by_cases h : b = oddpar s.rxAcc <;> simp [rxParity, h]
@[simp] theorem rxParity_freeIdx (b : Level) (s : State) :
    (rxParity b s).freeIdx = s.freeIdx := by
  by_cases h : b = oddpar s.rxAcc <;> simp [rxParity, h]
@[simp] theorem rxParity_cfg (b : Level) (s : State) :
    (rxParity b s).cfg = s.cfg := by
  by_cases h : b = oddpar s.rxAcc <;> simp [rxParity, h]

@[simp] theorem keyPressMapped_rxState (v : Byte) (s : State) :
    (keyPressMapped v s).rxState = s.rxState := by
  unfold keyPressMapped; dsimp only; split <;> [rfl; (split <;> rfl)]
@[simp] theorem keyPressMapped_rxCount (v : Byte) (s : State) :
    (keyPressMapped v s).rxCount = s.rxCount := by
  unfold keyPressMapped; dsimp only; split <;> [rfl; (split <;> rfl)]
@[simp] theorem keyPressMapped_rxAcc (v : Byte) (s : State) :
    (keyPressMapped v s).rxAcc = s.rxAcc := by
  unfold keyPressMapped; dsimp only; split <;> [rfl; (split <;> rfl)]
@[simp] theorem keyPressMapped_rxErr (v : Byte) (s : State) :
    (keyPressMapped v s).rxErr = s.rxErr := by
  unfold keyPressMapped; dsimp only; split <;> [rfl; (split <;> rfl)]
@[simp] theorem keyPressMapped_prevClk (v : Byte) (s : State) :
    (keyPressMapped v s).prevClk = s.prevClk := by
  unfold keyPressMapped; dsimp only; split <;> [rfl; (split <;> rfl)]
@[simp] theorem keyPressMapped_txPhase (v : Byte) (s : State) :
    (keyPressMapped v s).txPhase = s.txPhase := by
  unfold keyPressMapped; dsimp only; split <;> [rfl; (split <;> rfl)]
@[simp] theorem keyPressMapped_txByte (v : Byte) (s : State) :
    (keyPressMapped v s).txByte = s.txByte := by
  unfold keyPressMapped; dsimp only; split <;> [rfl; (split <;> rfl)]
@[simp] theorem keyPressMapped_clkLo (v : Byte) (s : State) :
    (keyPressMapped v s).clkLo = s.clkLo := by
  unfold keyPressMapped; dsimp only; split <;> [rfl; (split <;> rfl)]
@[simp] theorem keyPressMapped_datLo (v : Byte) (s : State) :
    (keyPressMapped v s).datLo = s.datLo := by
  unfold keyPressMapped; dsimp only; split <;> [rfl; (split <;> rfl)]
@[simp] theorem keyPressMapped_buf (v : Byte) (s : State) :
    (keyPressMapped v s).buf = s.buf := by
  unfold keyPressMapped; dsimp only; split <;> [rfl; (split <;> rfl)]
@[simp] theorem keyPressMapped_cqHead (v : Byte) (s : State) :
    (keyPressMapped v s).cqHead = s.cqHead := by
  unfold keyPressMapped; dsimp only; split <;> [rfl; (split <;> rfl)]
@[simp] theorem keyPressMapped_cqTail (v : Byte) (s : State) :
    (keyPressMapped v s).cqTail = s.cqTail := by
  unfold keyPressMapped; dsimp only; split <;> [rfl; (split <;> rfl)]
@[simp] theorem keyPressMapped_awaiting (v : Byte) (s : State) :
    (keyPressMapped v s).awaiting = s.awaiting := by
  unfold keyPressMapped; dsimp only; split <;> [rfl; (split <;> rfl)]
@[simp] theorem keyPressMapped_mods (v : Byte) (s : State) :
    (keyPressMapped v s).mods = s.mods := by
  unfold keyPressMapped; dsimp only; split <;> [rfl; (split <;> rfl)]
@[simp] theorem keyPressMapped_relPend (v : Byte) (s : State) :
    (keyPressMapped v s).relPend = s.relPend := by
  unfold keyPressMapped; dsimp only; split <;> [rfl; (split <;> rfl)]
@[simp] theorem keyPressMapped_leds (v : Byte) (s : State) :
    (keyPressMapped v s).leds = s.leds := by
  unfold keyPressMapped; dsimp only; split <;> [rfl; (split <;> rfl)]
@[simp] theorem keyPressMapped_initialised (v : Byte) (s : State) :
    (keyPressMapped v s).initialised = s.initialised := by
  unfold keyPressMapped; dsimp only; split <;> [rfl; (split <;> rfl)]
@[simp] theorem keyPressMapped_results (v : Byte) (s : State) :
    (keyPressMapped v s).results = s.results := by
  unfold keyPressMapped; dsimp only; split <;> [rfl; (split <;> rfl)]
@[simp] theorem keyPressMapped_caller (v : Byte) (s : State) :
    (keyPressMapped v s).caller = s.caller := by
  unfold keyPressMapped; dsimp only; split <;> [rfl; (split <;> rfl)]
@[simp] theorem keyPressMapped_inputs (v : Byte) (s : State) :
    (keyPressMapped v s).inputs = s.inputs := by
  unfold keyPressMapped; dsimp only; split <;> [rfl; (split <;> rfl)]
@[simp] theorem keyPressMapped_freeIdx (v : Byte) (s : State) :
    (keyPressMapped v s).freeIdx = s.freeIdx := by
  unfold keyPressMapped; dsimp only; split <;> [rfl; (split <;> rfl)]
@[simp] theorem keyPressMapped_cfg (v : Byte) (s : State) :
    (keyPressMapped v s).cfg = s.cfg := by
  unfold keyPressMapped; dsimp only; split <;> [rfl; (split <;> rfl)]

end Sys2Proof.Machine
end

