-- ==== Sys2Proof/Laws/Ops.lean ====
section
/-! SUPPORT. Each shared operation, said once: what it answers, and everything it can have done
where it answers a next state. Later proofs cite these and unfold none of the operations. -/

namespace Sys2Proof.Machine

/-! ### Sequencing and conditions -/

@[simp] theorem andThen_next (s : State) (f : State → Outcome) : andThen (.next s) f = f s := rfl
@[simp] theorem andThen_fault (r : Fault) (f : State → Outcome) :
    andThen (.fault r) f = .fault r := rfl
@[simp] theorem andThen_refused (r : Refusal) (f : State → Outcome) :
    andThen (.refused r) f = .refused r := rfl

theorem andThen_eq_next {o : Outcome} {f : State → Outcome} {t : State} :
    andThen o f = .next t ↔ ∃ s, o = .next s ∧ f s = .next t := by
  cases o <;> simp

theorem andThen_eq_fault {o : Outcome} {f : State → Outcome} {r : Fault} :
    andThen o f = .fault r ↔ o = .fault r ∨ ∃ s, o = .next s ∧ f s = .fault r := by
  cases o <;> simp

theorem whenReady_of {s : State} (h : Ready s) (o : Outcome) : whenReady s o = o := by
  simp [whenReady, h.1, h.2]

theorem whenReady_busy {s : State} (h : Transmitting s) (o : Outcome) :
    whenReady s o = .refused .busy := by simp [whenReady, h.1, h.2]

theorem whenReady_beforeInit {s : State} (h : s.initialised = false) (o : Outcome) :
    whenReady s o = .refused .beforeInit := by simp [whenReady, h]

theorem whenReady_eq_next {s t : State} {o : Outcome} :
    whenReady s o = .next t ↔ Ready s ∧ o = .next t := by
  unfold whenReady Ready; split <;> [(split <;> simp_all); simp_all]

theorem whenReady_eq_fault {s : State} {o : Outcome} {r : Fault} :
    whenReady s o = .fault r ↔ Ready s ∧ o = .fault r := by
  unfold whenReady Ready; split <;> [(split <;> simp_all); simp_all]

theorem whenInitialised_eq_next {s t : State} {o : Outcome} :
    whenInitialised s o = .next t ↔ s.initialised = true ∧ o = .next t := by
  unfold whenInitialised; split <;> simp_all

theorem whenInitialised_eq_fault {s : State} {o : Outcome} {r : Fault} :
    whenInitialised s o = .fault r ↔ s.initialised = true ∧ o = .fault r := by
  unfold whenInitialised; split <;> simp_all

theorem whenInitialised_of {s : State} (h : s.initialised = true) (o : Outcome) :
    whenInitialised s o = o := by simp [whenInitialised, h]

@[simp] theorem whenSelected_true (o : Outcome) : whenSelected true o = o := rfl
@[simp] theorem whenSelected_false (o : Outcome) :
    whenSelected false o = .refused .notSelected := rfl

theorem whenSelected_eq_next {b : Bool} {o : Outcome} {t : State} :
    whenSelected b o = .next t ↔ b = true ∧ o = .next t := by cases b <;> simp

theorem whenSelected_eq_fault {b : Bool} {o : Outcome} {r : Fault} :
    whenSelected b o = .fault r ↔ b = true ∧ o = .fault r := by cases b <;> simp

/-! ### The queue -/

/-- What a sized configuration says of its parameters. -/
theorem sized_iff {c : Config} :
    c.sized = true ↔ c.dataBits = 8 ∧ c.frameBits = 11 ∧ c.queueCap ≤ 15 := by
  simp [Config.sized, and_assoc]

/-- The capacity check passes exactly where the command ends at or below `QUEUE_CAP`. -/
theorem fits_iff {s : State} {n : Nat} :
    fits s n = true ↔ s.cqTail.toNat + n ≤ s.cfg.queueCap := by simp [fits]

theorem fits_eq_false_iff {s : State} {n : Nat} :
    fits s n = false ↔ s.cfg.queueCap < s.cqTail.toNat + n := by
  rw [← Bool.not_eq_true, fits_iff]; omega

/-- In a sized configuration the cursor reaches the end of every command that fits. -/
theorem tail_add_lt {s : State} {n : Nat} (hs : s.cfg.sized = true) (h : fits s n = true) :
    s.cqTail.toNat + n < 16 := by
  have := (sized_iff.1 hs).2.2
  have := fits_iff.1 h
  omega

theorem toNat_tail_add {s : State} {n : Nat} (h : s.cqTail.toNat + n < 16) :
    (BitVec.ofNat 4 (s.cqTail.toNat + n)).toNat = s.cqTail.toNat + n := by
  simp only [BitVec.toNat_ofNat]; omega

/-- The state in which a command has been taken in and nothing has been sent. -/
def appended (bs : List Byte) (s : State) : State :=
  { s with
    buf := Memory.writeAll s.buf s.cqTail.toNat bs
    cqTail := BitVec.ofNat 4 (s.cqTail.toNat + bs.length) }

/-- An append stores the bytes and moves the tail where the capacity check passes and the cursor
reaches the end; elsewhere it faults. -/
theorem bufAppend_eq (s : State) (bs : List Byte) :
    bufAppend s bs =
      if fits s bs.length = true ∧ s.cqTail.toNat + bs.length < 16 then .next (appended bs s)
      else .fault .bufferRange := by
  simp only [bufAppend, fits_iff]; rfl

/-- A send either reads a byte and starts its transmission, or leaves the buffer's range. -/
theorem sendAt_cases (i : Nat) (h : BitVec 4) (s : State) :
    (∃ v, bufRead s i = some v ∧ sendAt i h s = .next (send v { s with cqHead := h })) ∨
    (bufRead s i = none ∧ sendAt i h s = .fault .bufferRange) := by
  unfold sendAt; cases bufRead s i <;> simp

theorem sendAt_eq_next {i : Nat} {h : BitVec 4} {s t : State} :
    sendAt i h s = .next t ↔
      ∃ v, bufRead s i = some v ∧ t = send v { s with cqHead := h } := by
  unfold sendAt; cases bufRead s i <;> simp [eq_comm]

/-- A command that does not fit changes nothing. -/
theorem acceptCommand_full {bs : List Byte} {s : State} (h : fits s bs.length = false) :
    acceptCommand bs s = .next s := by simp [acceptCommand, h]

/-- A command is not taken for want of space, appended behind an awaited byte, or appended and its
transmission started; it faults where the cursor does not reach its end. -/
theorem acceptCommand_eq (bs : List Byte) (s : State) :
    acceptCommand bs s =
      if fits s bs.length = true then
        (if s.cqTail.toNat + bs.length < 16 then
          (if s.awaiting = true then .next (appended bs s) else sendNext (appended bs s))
        else .fault .bufferRange)
      else .next s := by
  unfold acceptCommand
  rw [bufAppend_eq]
  split
  · by_cases h : s.cqTail.toNat + bs.length < 16 <;> simp [*]
  · rfl

theorem acceptCommand_eq_next {bs : List Byte} {s t : State} :
    acceptCommand bs s = .next t ↔
      (fits s bs.length = false ∧ t = s) ∨
      (fits s bs.length = true ∧ s.cqTail.toNat + bs.length < 16 ∧
        ((s.awaiting = true ∧ t = appended bs s) ∨
        (s.awaiting = false ∧
          ∃ v, bufRead (appended bs s) s.cqHead.toNat = some v ∧
            t = send v { appended bs s with cqHead := s.cqHead + 1 }))) := by
  rw [acceptCommand_eq]
  by_cases hl : s.cqTail.toNat + bs.length < 16 <;> cases h : fits s bs.length <;>
    cases h' : s.awaiting <;>
    simp [hl, sendNext, sendAt_eq_next, appended, @eq_comm _ _ t]

theorem setLeds_eq_next {n : BitVec 3} {s t : State} :
    setLeds n s = .next t ↔
      (fits s 2 = false ∧ t = s) ∨
      (fits s 2 = true ∧ acceptCommand (ledCommand s.cfg n) { s with leds := n } = .next t) := by
  unfold setLeds; cases h : fits s 2 <;> simp [@eq_comm _ s t]

@[simp] theorem ledCommand_length (c : Config) (n : BitVec 3) : (ledCommand c n).length = 2 := rfl

/-- Everything an acknowledge can do. -/
theorem replyAck_eq_next {s t : State} :
    replyAck s = .next t ↔
      (s.cqHead.toNat < s.cqTail.toNat ∧ ∃ v, bufRead s s.cqHead.toNat = some v ∧
        t = send v { s with cqHead := s.cqHead + 1 }) ∨
      (s.cqTail.toNat ≤ s.cqHead.toNat ∧ t = discardQueue s) := by
  unfold replyAck sendNext
  split
  · have h := Nat.not_le.2 ‹s.cqHead.toNat < s.cqTail.toNat›
    simp [sendAt_eq_next, h, ‹s.cqHead.toNat < s.cqTail.toNat›]
  · have h := Nat.not_lt.1 ‹¬s.cqHead.toNat < s.cqTail.toNat›
    simp [h, @eq_comm _ _ t, Nat.not_lt.2 h]

/-- Everything a reply can do. -/
theorem cqReply_eq_next {v : Byte} {e : Bool} {s t : State} (h : cqReply v e s = .next t) :
    t = replyFrameError s ∨ replyAck s = .next t ∨ replyNak s = .next t ∨ t = replyOther v s := by
  unfold cqReply at h
  split at h
  · cases h; exact .inl rfl
  · split at h
    · exact .inr (.inl h)
    · split at h
      · split at h
        · cases h; exact .inr (.inr (.inr rfl))
        · exact .inr (.inr (.inl h))
      · cases h; exact .inr (.inr (.inr rfl))

/-- Everything a key event can do. -/
theorem khDecoded_eq_next {v : Byte} {e : Bool} {s t : State} (h : khDecoded v e s = .next t) :
    t = s ∨ t = clearRelease s ∨ t = keyBreak s ∨
    t = setLeft false (clearRelease s) ∨ t = setRight false (clearRelease s) ∨
    t = setLeft true s ∨ t = setRight true s ∨
    keyPressCaps s = .next t ∨ (s.relPend = false ∧ t = keyPressMapped v s) := by
  unfold khDecoded at h
  repeat' (split at h)
  all_goals first
    | (cases h; simp_all)
    | simp [h]

/-- Everything a mapped press can do: nothing, or one non-zero character. -/
theorem keyPressMapped_cases (v : Byte) (s : State) :
    keyPressMapped v s = s ∨
    ∃ c, c ≠ 0 ∧ c = selectedChar s.mods (keymapAt s.cfg v) ∧
      keyPressMapped v s = emit (.emit c) s := by
  unfold keyPressMapped
  dsimp only
  split
  · exact .inl rfl
  · split
    · exact .inl rfl
    · exact .inr ⟨_, ‹_›, rfl, rfl⟩

/-- Everything a delivery can do. -/
theorem deliver_eq_next {v : Byte} {e : Bool} {s t : State} (h : deliver v e s = .next t) :
    (s.awaiting = true ∧ cqReply v e s = .next t) ∨
    (s.awaiting = false ∧ khDecoded v e s = .next t) := by
  unfold deliver at h; split at h <;> simp_all

/-! ### Where nothing can stop -/

theorem cqReply_of_read {v : Byte} {e : Bool} {s : State}
    (h1 : s.cqHead.toNat < s.cqTail.toNat → (bufRead s s.cqHead.toNat).isSome = true)
    (h2 : s.cqHead ≠ 0 → (bufRead s (s.cqHead.toNat - 1)).isSome = true) :
    ∃ t, cqReply v e s = .next t := by
  unfold cqReply replyAck replyNak sendNext
  repeat' split
  all_goals try exact ⟨_, rfl⟩
  · obtain ⟨x, hx⟩ := Option.isSome_iff_exists.1 (h1 ‹_›)
    simp only [sendAt, hx]; exact ⟨_, rfl⟩
  · obtain ⟨x, hx⟩ := Option.isSome_iff_exists.1 (h2 ‹_›)
    simp only [sendAt, hx]; exact ⟨_, rfl⟩

/-- The first byte of a command is read back at the tail it was stored at. -/
theorem bufRead_appended {s : State} {b : Byte} {bs : List Byte} {i : Nat}
    (hs : s.cfg.sized = true) (h : fits s (b :: bs).length = true) (hi : i = s.cqTail.toNat) :
    bufRead (appended (b :: bs) s) i = some b := by
  have ht := toNat_tail_add (tail_add_lt hs h)
  have hf := fits_iff.1 h
  subst hi
  simp only [List.length_cons] at ht hf
  have hr := Memory.read_writeAll_in (b :: bs) s.buf (i := s.cqTail.toNat) (a := s.cqTail.toNat)
    (by simp only [List.length_cons]; omega)
  rw [bufRead, if_pos (by simp only [appended, List.length_cons, ht]; omega), appended, ← hr]
  simp

/-- A command that fits behind an awaited byte is appended. -/
theorem acceptCommand_awaiting {s : State} {bs : List Byte} (hs : s.cfg.sized = true)
    (h : fits s bs.length = true) (ha : s.awaiting = true) :
    acceptCommand bs s = .next (appended bs s) := by
  simp [acceptCommand_eq, h, ha, tail_add_lt hs h]

/-- A command that fits an idle queue is appended and its first byte's transmission begins. -/
theorem acceptCommand_idle {s : State} {b : Byte} {bs : List Byte} (hs : s.cfg.sized = true)
    (h : fits s (b :: bs).length = true) (ha : s.awaiting = false) (h0 : s.cqHead = 0)
    (h1 : s.cqTail = 0) :
    acceptCommand (b :: bs) s = .next (send b { appended (b :: bs) s with cqHead := 1 }) := by
  have hr := bufRead_appended hs h (i := (appended (b :: bs) s).cqHead.toNat)
    (by simp [appended, h0, h1])
  rw [acceptCommand_eq, if_pos h, if_pos (tail_add_lt hs h), if_neg (by simp [ha]), sendNext,
    sendAt, hr]
  simp [appended, h0]

/-- An LED state that fits behind an awaited byte is recorded and its command appended. -/
theorem setLeds_awaiting {s : State} {n : BitVec 3} (hs : s.cfg.sized = true)
    (h : fits s 2 = true) (ha : s.awaiting = true) :
    setLeds n s = .next (appended (ledCommand s.cfg n) { s with leds := n }) := by
  rw [setLeds, if_pos h]
  exact acceptCommand_awaiting (s := { s with leds := n }) (bs := ledCommand s.cfg n) hs h ha

/-- An LED state that fits an idle queue is recorded and the opcode's transmission begins. -/
theorem setLeds_idle {s : State} {n : BitVec 3} (hs : s.cfg.sized = true)
    (h : fits s 2 = true) (ha : s.awaiting = false) (h0 : s.cqHead = 0) (h1 : s.cqTail = 0) :
    setLeds n s = .next (send s.cfg.cmdSetLeds
      { appended (ledCommand s.cfg n) { s with leds := n } with cqHead := 1 }) := by
  rw [setLeds, if_pos h]
  exact acceptCommand_idle (s := { s with leds := n }) (b := s.cfg.cmdSetLeds)
    (bs := [n.setWidth 8]) hs h ha h0 h1

/-- An LED state that does not fit changes nothing. -/
theorem setLeds_full {s : State} {n : BitVec 3} (h : fits s 2 = false) :
    setLeds n s = .next s := by rw [setLeds, if_neg (by simp [h])]

/-- The LED bits after a request: those of the mask are set or cleared, the others stay. -/
theorem ledsAfter_getLsbD (l : BitVec 3) (m : Byte) (on : Bool) {j : Nat} (hj : j < 3) :
    (ledsAfter l m on).getLsbD j = if m.getLsbD j = true then on else l.getLsbD j := by
  cases on <;> simp [ledsAfter, hj] <;> cases m.getLsbD j <;> cases l.getLsbD j <;> simp

/-- Bytes stored at an index are read back there, and nowhere else is anything changed. -/
theorem stored_of_buf {i : Nat} {bs : List Byte} {s t : State}
    (h : t.buf = Memory.writeAll s.buf i bs) : Stored i bs s t := by
  intro a
  rw [h]
  split
  · exact Memory.read_writeAll_in bs s.buf ‹_›
  · exact Memory.read_writeAll_out bs s.buf ‹_›

/-! ### The receiver -/

/-- Recording an error writes `rx_err` only, and only where no error came before. -/
theorem recordErr_eq (k : RxErr) (s : State) :
    recordErr k s = { s with rxErr := if s.rxErr = .none then k else s.rxErr } := by
  unfold recordErr; split <;> simp [*]

/-- What the start bit writes. -/
theorem rxStart_eq (b : Level) (s : State) :
    rxStart b s = { s with
      rxErr := if b = true ∧ s.rxErr = .none then .start else s.rxErr
      rxCount := 0, rxAcc := 0x00, rxState := .data } := by
  cases b <;> simp [rxStart, recordErr_eq]

/-- What a data bit writes. -/
theorem rxData_eq {s : State} (b : Level) (h : s.rxCount.toNat < s.cfg.dataBits) :
    rxData b s = .next { s with
      rxAcc := s.rxAcc ||| bitAt b s.rxCount.toNat
      rxCount := s.rxCount + 1
      rxState := if s.rxCount.toNat + 1 = s.cfg.dataBits then .parityBit else s.rxState } := by
  simp [rxData, h]

/-- What the parity bit writes. -/
theorem rxParity_eq (b : Level) (s : State) :
    rxParity b s = { s with
      rxErr := if b ≠ oddpar s.rxAcc ∧ s.rxErr = .none then .parity else s.rxErr
      rxState := .stopBit } := by
  by_cases h : b = oddpar s.rxAcc <;> simp [rxParity, recordErr_eq, h]

/-- A framing error's diagnostic, and nothing else. -/
theorem emitFramingDiag_eq (s : State) :
    emitFramingDiag s = { s with out := s.out ++ framingDiags s.rxErr } := by
  unfold emitFramingDiag; cases h : s.rxErr <;> simp [RxErr.code, framingDiags, emit, ← h]

/-! ### Polls -/

/-- A poll without a falling edge only remembers the clock level. -/
theorem poll_no_edge {s : State} {c : Level} (d : Level) (h : edge s c = false) :
    poll c d s = .next { s with prevClk := c } := by simp [poll, h]

/-- A poll that sees a falling edge observes its data level. -/
theorem poll_edge {s : State} {c : Level} (d : Level) (h : edge s c = true) :
    poll c d s = observeBit d { s with prevClk := c } := by simp [poll, h]

theorem edge_eq_true {s : State} {c : Level} :
    edge s c = true ↔ s.prevClk = true ∧ c = false := by simp [edge]

theorem edge_eq_false {s : State} {c : Level} :
    edge s c = false ↔ ¬(s.prevClk = true ∧ c = false) := by
  rw [← Bool.not_eq_true, edge_eq_true]

end Sys2Proof.Machine
end

