-- ==== Sys2Proof/Laws/Invariant.lean ====
section
/-! SUPPORT. Each shared operation keeps the block's invariant, and completes where the invariant
holds. Proofs about whole steps cite these. -/

namespace Sys2Proof.Machine

/-! ### The queue's operations -/

/-- Sending a byte below the tail meets the invariant, whatever the transmitter did before. -/
theorem inv_send {s : State} {v : Byte} {h : BitVec 4} (ho : RunOk s) (hr : RxOk s)
    (hb : BufOk s) (h1 : 1 ≤ h.toNat) (h2 : h.toNat ≤ s.cqTail.toNat)
    (h3 : s.cqTail.toNat ≤ s.cfg.queueCap) : BlockInv (send v { s with cqHead := h }) := by
  refine ⟨ho, fun _ => ⟨hr, ⟨h2, h3, ?_, fun _ => h1⟩, hb, ?_⟩⟩
  · simp [send, txBegin, writeLine]
  · simp [send, txBegin, writeLine, TxOk, drivers]

/-- Storing a command that fits keeps the buffer's invariant. -/
theorem bufOk_appended {s : State} {bs : List Byte} (hb : BufOk s)
    (h : fits s bs.length = true) : BufOk (appended bs s) :=
  ⟨Memory.wf_writeAll _ _ _ hb.1, Memory.bounded_writeAll _ _ _ _ (fits_iff.1 h) hb.2⟩

/-- A command appended behind an awaited byte keeps the invariant. -/
theorem inv_appended {s : State} {bs : List Byte} (hi : s.initialised = true) (h : BlockInv s)
    (hf : fits s bs.length = true) (ha : s.awaiting = true) : BlockInv (appended bs s) := by
  obtain ⟨ho, h⟩ := h
  obtain ⟨hr, hq, hb, hx⟩ := h hi
  have ht := toNat_tail_add (tail_add_lt ho.2 hf)
  have h8 := fits_iff.1 hf
  refine ⟨ho, fun _ => ⟨hr, ⟨?_, ?_, ?_, hq.2.2.2⟩, bufOk_appended hb hf, hx⟩⟩
  · have := hq.1; simp only [appended, ht]; omega
  · simp only [appended, ht]; exact h8
  · simp [appended, ha]

/-- A command taken in by a ready block: it completes, keeps the invariant, and touches neither the
receiver, the Key Handler nor the run. -/
theorem acceptCommand_inv {s : State} (b : Byte) (bs : List Byte) (hr : Ready s) (h : BlockInv s) :
    ∃ t, acceptCommand (b :: bs) s = .next t ∧ BlockInv t ∧ SameReceiver s t ∧ SameKeys s t ∧
      SameRun s t ∧ t.out = s.out ∧ t.results = s.results ∧ t.leds = s.leds := by
  cases hf : fits s (b :: bs).length
  · refine ⟨s, ?_, h, ?_⟩
    · exact acceptCommand_full hf
    · and_intros <;> rfl
  · obtain ⟨hx, hq, hb, htx⟩ := h.2 hr.1
    by_cases ha : s.awaiting = true
    · exact ⟨_, acceptCommand_awaiting h.1.2 hf ha, inv_appended hr.1 h hf ha,
        by and_intros <;> rfl⟩
    · have ha : s.awaiting = false := by simpa using ha
      obtain ⟨h0, h1⟩ := hq.2.2.1 ha
      refine ⟨_, acceptCommand_idle h.1.2 hf ha h0 h1, ?_, by and_intros <;> rfl⟩
      have ht := toNat_tail_add (tail_add_lt h.1.2 hf)
      have h8 := fits_iff.1 hf
      exact inv_send (s := appended (b :: bs) s) h.1 hx (bufOk_appended hb hf) (by decide)
        (by rw [List.length_cons] at ht; simp only [appended, List.length_cons, ht]; simp; omega)
        (by simp only [appended, ht]; exact h8)

/-- An LED state handed to a ready block: it completes and keeps the invariant. -/
theorem setLeds_inv {s : State} (n : BitVec 3) (hr : Ready s) (h : BlockInv s) :
    ∃ t, setLeds n s = .next t ∧ BlockInv t ∧ SameReceiver s t ∧ SameKeys s t ∧ SameRun s t ∧
      t.out = s.out ∧ t.results = s.results := by
  cases hf : fits s 2
  · exact ⟨s, setLeds_full hf, h, by and_intros <;> rfl⟩
  · obtain ⟨t, ht, hi, h1, h2, h3, h4, h5, _⟩ :=
      acceptCommand_inv (s := { s with leds := n }) s.cfg.cmdSetLeds [n.setWidth 8] hr h
    exact ⟨t, by rw [setLeds, if_pos hf]; exact ht, hi, h1, h2, h3, h4, h5⟩

/-- An empty queue meets the invariant wherever the rest of the state did. -/
theorem inv_discard {s : State} (hr : Ready s) (h : BlockInv s) : BlockInv (discardQueue s) := by
  obtain ⟨hx, hq, hb, htx⟩ := h.2 hr.1
  refine ⟨h.1, fun _ => ⟨hx, ?_, hb, ⟨htx.1, ?_, htx.2.2⟩⟩⟩
  · simp [discardQueue, QueueOk]
  · exact fun h => absurd hr.2 h

/-- A diagnostic keeps the invariant. -/
theorem inv_emit {s : State} {ev : Event} (hc : ev ≠ .emit 0x00) (h : BlockInv s) :
    BlockInv (emit ev s) := by
  refine ⟨⟨?_, h.1.2⟩, h.2⟩
  intro e he
  simp only [emit, List.mem_append, List.mem_singleton] at he
  rcases he with he | rfl
  · exact h.1.1 e he
  · exact hc

/-- A byte below the tail can be read. -/
theorem bufRead_isSome {s : State} {i : Nat} (h : BlockInv s) (hi : s.initialised = true)
    (hl : i < s.cqTail.toNat) : (bufRead s i).isSome = true := by
  obtain ⟨_, hq, _⟩ := h.2 hi
  have := hq.2.1
  rw [bufRead, if_pos (by omega)]
  rfl

/-- A reply to a ready block: it completes, keeps the invariant, and touches neither the receiver,
the Key Handler nor the run. -/
theorem cqReply_inv {s : State} (v : Byte) (e : Bool) (hr : Ready s) (ha : s.awaiting = true)
    (h : BlockInv s) :
    ∃ t, cqReply v e s = .next t ∧ BlockInv t ∧ SameReceiver s t ∧ SameKeys s t ∧ SameRun s t := by
  obtain ⟨hx, hq, hb, htx⟩ := h.2 hr.1
  have h1 := hq.2.2.2 ha
  have h2 := hq.1
  have h3 := hq.2.1
  obtain ⟨t, ht⟩ := cqReply_of_read (v := v) (e := e) (s := s)
    (fun hl => bufRead_isSome h hr.1 hl) (fun _ => bufRead_isSome h hr.1 (by omega))
  refine ⟨t, ht, ?_⟩
  rcases cqReply_eq_next ht with rfl | ht | ht | rfl
  · exact ⟨inv_discard hr (inv_emit (by simp) h), by and_intros <;> rfl⟩
  · rcases replyAck_eq_next.1 ht with ⟨hl, v, hv, rfl⟩ | ⟨hl, rfl⟩
    · have : (s.cqHead + 1).toNat = s.cqHead.toNat + 1 := by
        have := (sized_iff.1 h.1.2).2.2
        rw [BitVec.toNat_add]; simp; omega
      exact ⟨inv_send h.1 hx hb (by omega) (by omega) h3, by and_intros <;> rfl⟩
    · exact ⟨inv_discard hr h, by and_intros <;> rfl⟩
  · obtain ⟨v, hv, rfl⟩ := sendAt_eq_next.1 ht
    exact ⟨inv_send h.1 hx hb h1 h2 h3, by and_intros <;> rfl⟩
  · exact ⟨inv_discard hr (inv_emit (by simp) h), by and_intros <;> rfl⟩

/-- The free values of the buffer after INIT are in canonical form and within its range. -/
theorem unspecifiedBuf_ok (c : Config) (n : Nat) :
    Memory.wf (unspecifiedBuf c n) = true ∧ ∀ x ∈ unspecifiedBuf c n, x.1 < c.queueCap :=
  ⟨Memory.wf_writeAll _ _ _ rfl, Memory.bounded_writeAll _ _ _ _ (by simp) (by simp)⟩

/-! ### The Key Handler's operations -/

/-- A key event at a ready block: it completes, keeps the invariant, and touches neither the
receiver nor the run. -/
theorem khDecoded_inv {s : State} (v : Byte) (e : Bool) (hr : Ready s) (h : BlockInv s) :
    ∃ t, khDecoded v e s = .next t ∧ BlockInv t ∧ SameReceiver s t ∧ SameRun s t := by
  unfold khDecoded
  repeat' split
  all_goals
    first
      | exact ⟨_, rfl, h, by and_intros <;> rfl⟩
      | (obtain ⟨t, ht, hi, h1, _, h3, _⟩ := setLeds_inv (s := { s with
          mods := { s.mods with caps := !s.mods.caps } })
          (ledsAfter s.leds s.cfg.ledCaps !s.mods.caps) hr h
         exact ⟨t, ht, hi, h1, h3⟩)
      | (rcases keyPressMapped_cases v s with hk | ⟨c, hc, _, hk⟩ <;> rw [hk]
         · exact ⟨_, rfl, h, by and_intros <;> rfl⟩
         · exact ⟨_, rfl, inv_emit (by simpa using hc) h, by and_intros <;> rfl⟩)

/-- A delivery at a ready block: it completes, keeps the invariant, and touches neither the receiver
nor the run. -/
theorem deliver_inv {s : State} (v : Byte) (e : Bool) (hr : Ready s) (h : BlockInv s) :
    ∃ t, deliver v e s = .next t ∧ BlockInv t ∧ SameReceiver s t ∧ SameRun s t := by
  by_cases ha : s.awaiting = true
  · obtain ⟨t, ht, hi, h1, _, h2⟩ := cqReply_inv v e hr ha h
    exact ⟨t, by rw [deliver, if_pos ha]; exact ht, hi, h1, h2⟩
  · obtain ⟨t, ht, hi⟩ := khDecoded_inv v e hr h
    exact ⟨t, by rw [deliver, if_neg ha]; exact ht, hi⟩

/-! ### The receiver's operations -/

/-- The receiver's own reset keeps the invariant. -/
theorem inv_rxReset {s : State} (h : BlockInv s) : BlockInv (rxReset s) :=
  ⟨h.1, fun hi => ⟨by simp [rxReset, RxOk], (h.2 hi).2⟩⟩

/-- A framing diagnostic keeps the invariant. -/
theorem inv_emitFramingDiag {s : State} (h : BlockInv s) : BlockInv (emitFramingDiag s) := by
  unfold emitFramingDiag
  split
  · exact h
  · exact inv_emit (by simp) h

/-- An error recorded inside a frame keeps the invariant. -/
theorem inv_recordErr {s : State} {k : RxErr} (hn : s.rxState ≠ .idle) (h : BlockInv s) :
    BlockInv (recordErr k s) := by
  rw [recordErr_eq]
  exact ⟨h.1, fun hi => ⟨⟨fun he => absurd he hn, (h.2 hi).1.2⟩, (h.2 hi).2⟩⟩

/-- The start bit opens a frame with an empty accumulator. -/
theorem inv_rxStart {s : State} (b : Level) (h : BlockInv s) : BlockInv (rxStart b s) := by
  rw [rxStart_eq]
  exact ⟨h.1, fun hi => ⟨by simp [RxOk, (sized_iff.1 h.1.2).1], (h.2 hi).2⟩⟩

/-- `a ||| (b << n)` stays below `2 ^ (n + 1)` where `a` is below `2 ^ n`. -/
theorem or_bitAt_lt {a : Byte} {b : Level} {n : Nat} (h : a.toNat < 2 ^ n) :
    (a ||| bitAt b n).toNat < 2 ^ (n + 1) := by
  rw [BitVec.toNat_or]
  refine Nat.or_lt_two_pow (Nat.lt_trans h (by rw [Nat.pow_succ]; have := Nat.two_pow_pos n; omega)) ?_
  refine Nat.lt_of_le_of_lt (Nat.mod_le _ _) ?_
  rw [Nat.shiftLeft_eq, Nat.pow_succ, Nat.mul_comm]
  refine Nat.mul_lt_mul_of_le_of_lt (Nat.le_refl _) ?_ (Nat.two_pow_pos n)
  cases b <;> simp

/-- A data bit in a state that meets the invariant: it completes and keeps it. -/
theorem rxData_inv {s : State} (b : Level) (hi : s.initialised = true) (hd : s.rxState = .data)
    (h : BlockInv s) : ∃ t, rxData b s = .next t ∧ BlockInv t ∧ SameRun s t := by
  obtain ⟨⟨_, hx, _⟩, hq⟩ := h.2 hi
  obtain ⟨hc, ha⟩ := hx hd
  have h8 := (sized_iff.1 h.1.2).1
  have h1 : (s.rxCount + 1).toNat = s.rxCount.toNat + 1 := by
    rw [BitVec.toNat_add]; simp; omega
  refine ⟨_, rxData_eq b hc, ⟨h.1, fun _ => ⟨⟨?_, ?_, ?_⟩, hq⟩⟩,
    by and_intros <;> rfl⟩ <;> dsimp only
  · split <;> simp [hd]
  · split
    · simp
    · intro _; rw [h1]; exact ⟨by omega, or_bitAt_lt ha⟩
  · split
    · intro _; rw [h1]; assumption
    · simp [hd]

/-- The parity bit keeps the invariant. -/
theorem inv_rxParity {s : State} (b : Level) (hp : s.rxState = .parityBit) (h : BlockInv s) :
    BlockInv (rxParity b s) := by
  rw [rxParity_eq]
  refine ⟨h.1, fun hi => ⟨⟨by simp, by simp, fun _ => (h.2 hi).1.2.2 (.inl hp)⟩, (h.2 hi).2⟩⟩

/-- The end of a frame at a ready block: it completes, keeps the invariant, and resets the
receiver. -/
theorem completeFrame_inv {s : State} (hr : Ready s) (h : BlockInv s) :
    ∃ u, deliver s.rxAcc (hasError s) (emitFramingDiag s) = .next u ∧
      completeFrame s = .next (rxReset u) ∧ BlockInv u ∧ u.prevClk = s.prevClk ∧ SameRun s u := by
  have e1 : (emitFramingDiag s).prevClk = s.prevClk ∧ SameRun s (emitFramingDiag s) ∧
      (emitFramingDiag s).txPhase = s.txPhase := by
    unfold emitFramingDiag; split <;> and_intros <;> rfl
  obtain ⟨u, hu, hi, h1, h2⟩ := deliver_inv s.rxAcc (hasError s) (s := emitFramingDiag s)
    ⟨by rw [e1.2.1.2.2.2]; exact hr.1, by rw [e1.2.2]; exact hr.2⟩ (inv_emitFramingDiag h)
  refine ⟨u, hu, by rw [completeFrame, hu]; rfl, hi, ?_, ?_⟩
  · rw [h1.2.2.2.2, e1.1]
  · exact ⟨by rw [h2.1, e1.2.1.1], by rw [h2.2.1, e1.2.1.2.1], by rw [h2.2.2.1, e1.2.1.2.2.1],
      by rw [h2.2.2.2, e1.2.1.2.2.2]⟩

/-- An observed bit at a ready block: it completes and keeps the invariant. -/
theorem observeBit_inv {s : State} (b : Level) (hr : Ready s) (h : BlockInv s) :
    ∃ t, observeBit b s = .next t ∧ BlockInv t ∧ SameRun s t := by
  cases hx : s.rxState <;> simp only [observeBit, hx]
  · exact ⟨_, rfl, inv_rxStart b h, by rw [rxStart_eq]; and_intros <;> rfl⟩
  · exact rxData_inv b hr.1 hx h
  · exact ⟨_, rfl, inv_rxParity b hx h, by rw [rxParity_eq]; and_intros <;> rfl⟩
  · have hs : Ready (if b then s else recordErr .stop s) ∧
        BlockInv (if b then s else recordErr .stop s) ∧
        SameRun s (if b then s else recordErr .stop s) := by
      split
      · exact ⟨hr, h, by and_intros <;> rfl⟩
      · refine ⟨?_, inv_recordErr (by simp [hx]) h, ?_⟩ <;> rw [recordErr_eq]
        · exact hr
        · and_intros <;> rfl
    obtain ⟨u, _, hu, hi, _, h2⟩ := completeFrame_inv hs.1 hs.2.1
    refine ⟨_, hu, inv_rxReset hi, ?_⟩
    obtain ⟨e1, e2, e3, e4⟩ := hs.2.2
    exact ⟨h2.1.trans e1, h2.2.1.trans e2, h2.2.2.1.trans e3, h2.2.2.2.trans e4⟩

/-- A poll of a ready block: it completes and keeps the invariant. -/
theorem poll_inv {s : State} (c d : Level) (hr : Ready s) (h : BlockInv s) :
    ∃ t, poll c d s = .next t ∧ BlockInv t ∧ SameRun s t := by
  unfold poll
  split
  · exact observeBit_inv d hr h
  · exact ⟨_, rfl, h, by and_intros <;> rfl⟩

/-- A run of polls: it completes, and keeps the invariant and the configuration. -/
theorem polls_inv (ps : List (Level × Level)) {s : State} (hi : s.initialised = true)
    (h : BlockInv s) :
    ∃ t, polls ps s = .next t ∧ BlockInv t ∧ t.initialised = true ∧ t.cfg = s.cfg := by
  induction ps generalizing s with
  | nil => exact ⟨s, rfl, h, hi, rfl⟩
  | cons p ps ih =>
    unfold polls
    split
    · obtain ⟨u, hu, hu1, hu2⟩ := poll_inv p.1 p.2 ⟨hi, ‹_›⟩ h
      obtain ⟨t, ht, h1, h2, h3⟩ := ih (hu2.2.2.2.trans hi) hu1
      exact ⟨t, by rw [hu]; exact ht, h1, h2, h3.trans hu2.1⟩
    · exact ⟨_, rfl, h, hi, rfl⟩

end Sys2Proof.Machine
end

