-- ==== Sys2Proof/Laws/Inputs.lean ====
section
/-! SUPPORT. A poll neither reads nor writes the stimuli to come: with others in their place it does
the same. -/

namespace Sys2Proof.Machine

/-- The state with other stimuli to come. -/
abbrev withInputs (x : List Stimulus) (s : State) : State := { s with inputs := x }

theorem sendAt_withInputs (i : Nat) (h : BitVec 4) (s : State) (x : List Stimulus) :
    sendAt i h (withInputs x s) = mapNext (withInputs x) (sendAt i h s) := by
  have h1 : bufRead (withInputs x s) i = bufRead s i := rfl
  unfold sendAt; rw [h1]; cases bufRead s i <;> rfl

theorem acceptCommand_withInputs (bs : List Byte) (s : State) (x : List Stimulus) :
    acceptCommand bs (withInputs x s) = mapNext (withInputs x) (acceptCommand bs s) := by
  rw [acceptCommand_eq, acceptCommand_eq]
  show (if fits s bs.length = true then
    (if s.cqTail.toNat + bs.length < 16 then (if s.awaiting = true then _ else _) else _) else _) = _
  split
  · split
    · split
      · rfl
      · exact sendAt_withInputs s.cqHead.toNat (s.cqHead + 1) (appended bs s) x
    · rfl
  · rfl

theorem cqReply_withInputs (v : Byte) (e : Bool) (s : State) (x : List Stimulus) :
    cqReply v e (withInputs x s) = mapNext (withInputs x) (cqReply v e s) := by
  unfold cqReply
  show (if e = true then _ else if v = s.cfg.replyAck then _
    else if v = s.cfg.replyNak then (if s.cqHead = 0 then _ else _) else _) = _
  split
  · rfl
  split
  · unfold replyAck
    show (if s.cqHead.toNat < s.cqTail.toNat then _ else _) = _
    split
    · exact sendAt_withInputs _ _ _ _
    · rfl
  split
  · split
    · rfl
    · exact sendAt_withInputs _ _ _ _
  · rfl

theorem keyPressMapped_withInputs (v : Byte) (s : State) (x : List Stimulus) :
    keyPressMapped v (withInputs x s) = withInputs x (keyPressMapped v s) := by
  have h1 : (withInputs x s).cfg = s.cfg := rfl
  have h2 : (withInputs x s).mods = s.mods := rfl
  unfold keyPressMapped; dsimp only
  rw [h1, h2]
  split
  · rfl
  · split <;> rfl

theorem khDecoded_withInputs (v : Byte) (e : Bool) (s : State) (x : List Stimulus) :
    khDecoded v e (withInputs x s) = mapNext (withInputs x) (khDecoded v e s) := by
  unfold khDecoded
  show (if e = true then _ else if v = s.cfg.scBreak then _
    else if s.relPend = true then
      (if isShift s.cfg v = true then (if v = s.cfg.scLshift then _ else _) else _)
    else if isShift s.cfg v = true then (if v = s.cfg.scLshift then _ else _)
    else if v = s.cfg.scCaps then _ else if s.cfg.mapLimit < v.toNat then _ else _) = _
  split
  · rfl
  split
  · rfl
  split
  · split
    · split <;> rfl
    · rfl
  split
  · split <;> rfl
  split
  · unfold keyPressCaps requestLed setLeds
    show (if fits s 2 = true then _ else _) = mapNext _ (if fits s 2 = true then _ else _)
    split
    · exact acceptCommand_withInputs
        (ledCommand s.cfg (ledsAfter s.leds s.cfg.ledCaps !s.mods.caps))
        { s with
          mods := { s.mods with caps := !s.mods.caps }
          leds := ledsAfter s.leds s.cfg.ledCaps !s.mods.caps } x
    · rfl
  split
  · rfl
  · rw [keyPressMapped_withInputs]; rfl

theorem deliver_withInputs (v : Byte) (e : Bool) (s : State) (x : List Stimulus) :
    deliver v e (withInputs x s) = mapNext (withInputs x) (deliver v e s) := by
  unfold deliver
  show (if s.awaiting = true then _ else _) = mapNext _ (if s.awaiting = true then _ else _)
  split
  · exact cqReply_withInputs _ _ _ _
  · exact khDecoded_withInputs _ _ _ _

theorem completeFrame_withInputs (s : State) (x : List Stimulus) :
    completeFrame (withInputs x s) = mapNext (withInputs x) (completeFrame s) := by
  unfold completeFrame
  rw [emitFramingDiag_eq, emitFramingDiag_eq]
  have h := deliver_withInputs s.rxAcc (hasError s) { s with out := s.out ++ framingDiags s.rxErr } x
  refine Eq.trans (congrArg (fun o => andThen o _) h) ?_
  cases deliver s.rxAcc (hasError s) { s with out := s.out ++ framingDiags s.rxErr } <;> rfl

theorem observeBit_withInputs (b : Level) (s : State) (x : List Stimulus) :
    observeBit b (withInputs x s) = mapNext (withInputs x) (observeBit b s) := by
  have hx : (withInputs x s).rxState = s.rxState := rfl
  unfold observeBit
  rw [hx]
  cases s.rxState <;> dsimp only
  · rw [rxStart_eq, rxStart_eq]; rfl
  · unfold rxData
    show (if s.rxCount.toNat < s.cfg.dataBits then _ else _) = _
    split <;> rfl
  · rw [rxParity_eq, rxParity_eq]; rfl
  · unfold rxStop
    rw [← completeFrame_withInputs]
    cases b <;> simp [recordErr_eq]

/-- A poll does the same whatever the stimuli to come are. -/
theorem poll_withInputs (c d : Level) (s : State) (x : List Stimulus) :
    poll c d (withInputs x s) = mapNext (withInputs x) (poll c d s) := by
  unfold poll
  show (if edge s c = true then _ else _) = _
  split
  · exact observeBit_withInputs d { s with prevClk := c } x
  · rfl

end Sys2Proof.Machine
end

