-- ==== Sys2Proof/Laws/PerInstr.lean ====
section
/-! SUPPORT. The family Encoding: for every instruction, it has bytes exactly where its row has a
format, under every configuration (30_encoding.md R106: the operations without one have no binary
form). -/

namespace Sys2Proof.Laws.Encoding

/-- A row has bytes exactly where it has a format, and a row's bytes are one or two unless it is a
command of its own length. -/
def Statement (i : Instr) : Prop :=
  ∀ c : Config, (encode c i).isSome = (format i).isSome ∧
    (format i ≠ some .commandN → ∀ bs, encode c i = some bs → bs.length = 1 ∨ bs.length = 2)

theorem init : Statement .init :=
  fun _ => ⟨rfl, fun _ _ h => nomatch h⟩

theorem step (clk : Level) (dat : Level) : Statement (.step clk dat) :=
  fun _ => ⟨rfl, fun _ _ h => nomatch h⟩

theorem requestLed (mask : Byte) (on : Bool) : Statement (.requestLed mask on) :=
  fun _ => ⟨rfl, fun _ _ h => nomatch h⟩

theorem enqueue (bytes : List Byte) : Statement (.enqueue bytes) :=
  fun _ => ⟨rfl, fun _ _ h => nomatch h⟩

theorem frame (start : Level) (d : Byte) (p : Level) (stop : Level) :
    Statement (.frame start d p stop) :=
  fun _ => ⟨rfl, fun _ _ h => by cases h; exact .inr rfl⟩

theorem rxStart (b : Level) : Statement (.rxStart b) :=
  fun _ => ⟨rfl, fun _ _ h => by cases h; exact .inl rfl⟩

theorem rxData (b : Level) : Statement (.rxData b) :=
  fun _ => ⟨rfl, fun _ _ h => by cases h; exact .inl rfl⟩

theorem rxParity (b : Level) : Statement (.rxParity b) :=
  fun _ => ⟨rfl, fun _ _ h => by cases h; exact .inl rfl⟩

theorem rxStop (b : Level) : Statement (.rxStop b) :=
  fun _ => ⟨rfl, fun _ _ h => by cases h; exact .inl rfl⟩

theorem observeBit (b : Level) : Statement (.observeBit b) :=
  fun _ => ⟨rfl, fun _ _ h => nomatch h⟩

theorem deliver (v : Byte) (e : Bool) : Statement (.deliver v e) :=
  fun _ => ⟨rfl, fun _ _ h => nomatch h⟩

theorem cqReply (v : Byte) (e : Bool) : Statement (.cqReply v e) :=
  fun _ => ⟨rfl, fun _ _ h => nomatch h⟩

theorem replyFrameError (v : Byte) : Statement (.replyFrameError v) :=
  fun _ => ⟨rfl, fun _ _ h => by cases h; exact .inr rfl⟩

theorem replyAck : Statement .replyAck :=
  fun _ => ⟨rfl, fun _ _ h => by cases h; exact .inr rfl⟩

theorem replyNak : Statement .replyNak :=
  fun _ => ⟨rfl, fun _ _ h => by cases h; exact .inr rfl⟩

theorem replyOther (v : Byte) : Statement (.replyOther v) :=
  fun _ => ⟨rfl, fun _ _ h => by cases h; exact .inr rfl⟩

theorem replyNakGuard : Statement .replyNakGuard :=
  fun _ => ⟨rfl, fun _ _ h => by cases h; exact .inr rfl⟩

theorem khDecoded (v : Byte) (e : Bool) : Statement (.khDecoded v e) :=
  fun _ => ⟨rfl, fun _ _ h => nomatch h⟩

theorem keyError (r : Bool) (v : Byte) : Statement (.keyError r v) :=
  fun _ => ⟨rfl, fun _ _ h => by cases h; exact .inr rfl⟩

theorem keyBreak (r : Bool) : Statement (.keyBreak r) :=
  fun _ => ⟨rfl, fun _ _ h => by cases h; exact .inr rfl⟩

theorem keyReleaseShiftL : Statement .keyReleaseShiftL :=
  fun _ => ⟨rfl, fun _ _ h => by cases h; exact .inr rfl⟩

theorem keyReleaseShiftR : Statement .keyReleaseShiftR :=
  fun _ => ⟨rfl, fun _ _ h => by cases h; exact .inr rfl⟩

theorem keyReleaseOther (v : Byte) : Statement (.keyReleaseOther v) :=
  fun _ => ⟨rfl, fun _ _ h => by cases h; exact .inr rfl⟩

theorem keyPressShiftL : Statement .keyPressShiftL :=
  fun _ => ⟨rfl, fun _ _ h => by cases h; exact .inr rfl⟩

theorem keyPressShiftR : Statement .keyPressShiftR :=
  fun _ => ⟨rfl, fun _ _ h => by cases h; exact .inr rfl⟩

theorem keyPressCaps : Statement .keyPressCaps :=
  fun _ => ⟨rfl, fun _ _ h => by cases h; exact .inr rfl⟩

theorem keyPressHigh (v : Byte) : Statement (.keyPressHigh v) :=
  fun _ => ⟨rfl, fun _ _ h => by cases h; exact .inr rfl⟩

theorem keyPressMapped (v : Byte) : Statement (.keyPressMapped v) :=
  fun _ => ⟨rfl, fun _ _ h => by cases h; exact .inr rfl⟩

theorem discard : Statement .discard :=
  fun _ => ⟨rfl, fun _ _ h => nomatch h⟩

theorem send (v : Byte) : Statement (.send v) :=
  fun _ => ⟨rfl, fun _ _ h => nomatch h⟩

theorem txBegin (v : Byte) : Statement (.txBegin v) :=
  fun _ => ⟨rfl, fun _ _ h => nomatch h⟩

theorem txSettle (clk : Level) (dat : Level) : Statement (.txSettle clk dat) :=
  fun _ => ⟨rfl, fun _ _ h => by cases h; exact .inl rfl⟩

theorem txWlow (clk : Level) (dat : Level) : Statement (.txWlow clk dat) :=
  fun _ => ⟨rfl, fun _ _ h => by cases h; exact .inl rfl⟩

theorem txWhigh (clk : Level) (dat : Level) : Statement (.txWhigh clk dat) :=
  fun _ => ⟨rfl, fun _ _ h => by cases h; exact .inl rfl⟩

theorem txAck1 (clk : Level) (dat : Level) : Statement (.txAck1 clk dat) :=
  fun _ => ⟨rfl, fun _ _ h => by cases h; exact .inl rfl⟩

theorem txAck2 (clk : Level) (dat : Level) : Statement (.txAck2 clk dat) :=
  fun _ => ⟨rfl, fun _ _ h => by cases h; exact .inl rfl⟩

theorem txAck3 (clk : Level) (dat : Level) : Statement (.txAck3 clk dat) :=
  fun _ => ⟨rfl, fun _ _ h => by cases h; exact .inl rfl⟩

theorem txComplete : Statement .txComplete :=
  fun _ => ⟨rfl, fun _ _ h => nomatch h⟩

theorem cmdSetLeds (caps : Bool) (num : Bool) (scroll : Bool) :
    Statement (.cmdSetLeds caps num scroll) :=
  fun _ => ⟨rfl, fun _ _ h => by cases h; exact .inr rfl⟩

theorem cmdArbitrary (bytes : List Byte) : Statement (.cmdArbitrary bytes) :=
  fun _ => ⟨rfl, fun h => absurd rfl h⟩

end Sys2Proof.Laws.Encoding
end

