-- ==== Sys2Proof/Laws/Receiver.lean ====
section
/-! SUPPORT. Runs of polls: what the two polls of one bit come to, what the polls of a whole frame
come to, and that a delivery does not depend on the receiver's registers. -/

namespace Sys2Proof.Machine

/-! ### A delivery and the receiver's reset may change places -/

theorem keyPressMapped_rxReset (v : Byte) (s : State) :
    keyPressMapped v (rxReset s) = rxReset (keyPressMapped v s) := by
  have h1 : (rxReset s).cfg = s.cfg := rfl
  have h2 : (rxReset s).mods = s.mods := rfl
  unfold keyPressMapped; dsimp only
  rw [h1, h2]
  split
  · rfl
  · split <;> rfl

theorem sendAt_rxReset (i : Nat) (h : BitVec 4) (s : State) :
    (andThen (sendAt i h s) fun t => .next (rxReset t)) = sendAt i h (rxReset s) := by
  have h1 : bufRead (rxReset s) i = bufRead s i := rfl
  unfold sendAt; rw [h1]; cases bufRead s i <;> rfl

theorem acceptCommand_rxReset (bs : List Byte) (s : State) :
    (andThen (acceptCommand bs s) fun t => .next (rxReset t)) = acceptCommand bs (rxReset s) := by
  rw [acceptCommand_eq, acceptCommand_eq]
  show _ = (if fits s bs.length = true then
    (if s.cqTail.toNat + bs.length < 16 then (if s.awaiting = true then _ else _) else _) else _)
  split
  · split
    · split
      · rfl
      · exact sendAt_rxReset _ _ _
    · rfl
  · rfl

theorem cqReply_rxReset (v : Byte) (e : Bool) (s : State) :
    (andThen (cqReply v e s) fun t => .next (rxReset t)) = cqReply v e (rxReset s) := by
  unfold cqReply
  show _ = (if e = true then _ else if v = s.cfg.replyAck then _
    else if v = s.cfg.replyNak then (if s.cqHead = 0 then _ else _) else _)
  split
  · rfl
  split
  · unfold replyAck
    show _ = (if s.cqHead.toNat < s.cqTail.toNat then _ else _)
    split
    · exact sendAt_rxReset _ _ _
    · rfl
  split
  · split
    · rfl
    · exact sendAt_rxReset _ _ _
  · rfl

theorem khDecoded_rxReset (v : Byte) (e : Bool) (s : State) :
    (andThen (khDecoded v e s) fun t => .next (rxReset t)) = khDecoded v e (rxReset s) := by
  unfold khDecoded
  show _ = (if e = true then _ else if v = s.cfg.scBreak then _
    else if s.relPend = true then
      (if isShift s.cfg v = true then (if v = s.cfg.scLshift then _ else _) else _)
    else if isShift s.cfg v = true then (if v = s.cfg.scLshift then _ else _)
    else if v = s.cfg.scCaps then _ else if s.cfg.mapLimit < v.toNat then _ else _)
  split
  · rfl
  split
  · rfl
  split
  · split
    · split <;> rfl
    · rfl
  split
  · split <;> rfl
  split
  · unfold keyPressCaps requestLed setLeds
    show (andThen (if fits s 2 = true then _ else _) _) = (if fits s 2 = true then _ else _)
    split
    · exact acceptCommand_rxReset _ _
    · rfl
  split
  · rfl
  · rw [andThen_next, keyPressMapped_rxReset]

/-- A delivery neither reads nor writes the receiver's registers (R125, D39). -/
theorem deliver_rxReset (v : Byte) (e : Bool) (s : State) :
    (andThen (deliver v e s) fun t => .next (rxReset t)) = deliver v e (rxReset s) := by
  unfold deliver
  show _ = (if s.awaiting = true then _ else _)
  split
  · exact cqReply_rxReset v e s
  · exact khDecoded_rxReset v e s

/-! ### Polls -/

/-- The two polls of one bit observe exactly that bit, whatever `prev_clk` was (R108). -/
theorem polls_bit {s : State} (b : Level) (ps : List (Level × Level)) (h : s.txPhase = .idle) :
    polls (bitPolls b ++ ps) s =
      andThen (observeBit b { s with prevClk := false }) (polls ps) := by
  show (if s.txPhase = .idle then andThen (poll true b s) (polls ((false, b) :: ps)) else _) = _
  rw [if_pos h, poll_no_edge b (by simp [edge]), andThen_next]
  show (if s.txPhase = .idle
    then andThen (poll false b { s with prevClk := true }) (polls ps) else _) = _
  rw [if_pos h, poll_edge b (by simp [edge])]

/-- A data bit observed at a known count. -/
theorem observeBit_data {s : State} (b : Level) (n : Nat) (hs : s.rxState = .data)
    (hn : s.rxCount.toNat = n) (h8 : s.cfg.dataBits = 8) (h : n < 8) :
    observeBit b s = .next { s with
      rxAcc := s.rxAcc ||| bitAt b n
      rxCount := s.rxCount + 1
      rxState := if n = 7 then .parityBit else s.rxState } := by
  subst hn
  simp only [observeBit, hs]
  rw [rxData_eq b (by omega), h8]; simp [hs]

/-- Eight bits entered least-significant first make the byte (R96). -/
theorem assemble (d : Byte) :
    ((((((((0x00 ||| bitAt (d.getLsbD 0) 0) ||| bitAt (d.getLsbD 1) 1) ||| bitAt (d.getLsbD 2) 2)
      ||| bitAt (d.getLsbD 3) 3) ||| bitAt (d.getLsbD 4) 4) ||| bitAt (d.getLsbD 5) 5)
      ||| bitAt (d.getLsbD 6) 6) ||| bitAt (d.getLsbD 7) 7) = d := by
  revert d; decide

theorem framePolls_eq {c : Config} (h8 : c.dataBits = 8) (start : Level) (d : Byte)
    (p stop : Level) :
    framePolls c start d p stop = bitPolls start ++ (bitPolls (d.getLsbD 0) ++
      (bitPolls (d.getLsbD 1) ++ (bitPolls (d.getLsbD 2) ++ (bitPolls (d.getLsbD 3) ++
      (bitPolls (d.getLsbD 4) ++ (bitPolls (d.getLsbD 5) ++ (bitPolls (d.getLsbD 6) ++
      (bitPolls (d.getLsbD 7) ++ (bitPolls p ++ (bitPolls stop ++ [])))))))))) := by
  simp [framePolls, wireBits, h8, List.range_succ]

theorem andThen_pure (o : Outcome) : (andThen o fun t => .next t) = o := by cases o <;> rfl

/-- The polls of a whole frame, from an idle receiver, come to the completion of that frame. -/
theorem polls_frame {s : State} (start : Level) (d : Byte) (p stop : Level)
    (h8 : s.cfg.dataBits = 8) (hr : s.txPhase = .idle) (hi : s.rxState = .idle)
    (h3 : s.rxErr = .none) :
    polls (framePolls s.cfg start d p stop) s =
      completeFrame { s with
        rxState := .stopBit, rxCount := 8, rxAcc := d, rxErr := frameError start d p stop,
        prevClk := false } := by
  rw [framePolls_eq h8, polls_bit _ _ hr]
  simp only [observeBit, hi, rxStart_eq, h3, andThen_next]
  rw [polls_bit _ _ (by exact hr), observeBit_data _ 0 rfl rfl (by exact h8) (by decide),
    andThen_next]; dsimp only
  rw [polls_bit _ _ (by exact hr), observeBit_data _ 1 rfl rfl (by exact h8) (by decide),
    andThen_next]; dsimp only
  rw [polls_bit _ _ (by exact hr), observeBit_data _ 2 rfl rfl (by exact h8) (by decide),
    andThen_next]; dsimp only
  rw [polls_bit _ _ (by exact hr), observeBit_data _ 3 rfl rfl (by exact h8) (by decide),
    andThen_next]; dsimp only
  rw [polls_bit _ _ (by exact hr), observeBit_data _ 4 rfl rfl (by exact h8) (by decide),
    andThen_next]; dsimp only
  rw [polls_bit _ _ (by exact hr), observeBit_data _ 5 rfl rfl (by exact h8) (by decide),
    andThen_next]; dsimp only
  rw [polls_bit _ _ (by exact hr), observeBit_data _ 6 rfl rfl (by exact h8) (by decide),
    andThen_next]; dsimp only
  rw [polls_bit _ _ (by exact hr), observeBit_data _ 7 rfl rfl (by exact h8) (by decide),
    andThen_next]; dsimp only
  rw [polls_bit _ _ (by exact hr)]
  simp only [observeBit, if_true, rxParity_eq, andThen_next]
  rw [polls_bit _ _ (by exact hr)]
  simp only [observeBit, rxStop, assemble]
  have h : polls [] = fun t => .next t := by funext t; rfl
  rw [h, andThen_pure]
  congr 1
  by_cases hp : p = oddpar d <;> cases start <;> cases stop <;>
    simp [recordErr_eq, frameError, hp]

end Sys2Proof.Machine
end

