-- ==== Sys2Proof/Laws/Transmitter.lean ====
section
/-! SUPPORT. The transmitter's shared operations keep the block's invariant, phase by phase. -/

namespace Sys2Proof.Machine

/-- The end of a transmission keeps the invariant where both lines are already released. -/
theorem inv_txComplete {s : State} (h : BlockInv s) (hc : s.clkLo = false) (hd : s.datLo = false) :
    BlockInv (txComplete s) :=
  ⟨h.1, fun hi => ⟨(h.2 hi).1, (h.2 hi).2.1, (h.2 hi).2.2.1, by
    simp [TxOk, txComplete, finishCall, drivers, hc, hd]⟩⟩

/-- The end of the settle phase drives the start bit (R152). -/
theorem inv_afterSettle {s : State} (h : BlockInv s) (hp : s.txPhase = .settle) (n : Nat) :
    BlockInv { writeLine .clk true (writeLine .dat false (delay n s)) with txPhase := .wlow 0 } :=
  ⟨h.1, fun hi => ⟨(h.2 hi).1, (h.2 hi).2.1, (h.2 hi).2.2.1, by
    simp [TxOk, writeLine, delay, drivers]
    exact (h.2 hi).2.2.2.2.1 (by simp [hp])⟩⟩

/-- A low phase drives its bit (R153). -/
theorem inv_afterLow {s : State} {k : Fin 10} (h : BlockInv s) (hp : s.txPhase = .wlow k) :
    BlockInv { writeLine .dat (txbit s.cfg s.txByte k) s with txPhase := .whigh k } := by
  refine ⟨h.1, fun hi => ?_⟩
  obtain ⟨a, b, c, d⟩ := h.2 hi
  have e := d.1
  simp only [hp, drivers, Prod.mk.injEq] at e
  exact ⟨a, b, c, by simp [drivers, writeLine, e.1], fun _ => d.2.1 (by simp [hp]), by simp,
    by simp⟩

/-- In a sized configuration another bit follows every one but the stop bit. -/
theorem moreBits_of_sized {c : Config} (h : c.sized = true) (k : Fin 10) :
    moreBits c k = decide (k.val < 9) := by
  have h := (sized_iff.1 h).2.1
  simp only [moreBits, h, ← Bool.decide_and]
  congr 1
  simp only [eq_iff_iff]
  omega

/-- A high phase leads to the next low phase, to the line acknowledge, or to the end (R154). -/
theorem inv_afterHigh {s : State} {k : Fin 10} (hi : s.initialised = true) (h : BlockInv s)
    (hp : s.txPhase = .whigh k) : BlockInv (afterHigh k s) := by
  obtain ⟨a, b, c, d⟩ := h.2 hi
  have e := d.1
  simp only [hp, drivers, Prod.mk.injEq] at e
  have hs := sized_iff.1 h.1.2
  unfold afterHigh
  simp only [moreBits_of_sized h.1.2, decide_eq_true_eq]
  split
  · have h0 : ¬(k + 1 : Fin 10) = 0 :=
      (by decide : ∀ k : Fin 10, k.val < 9 → ¬k + 1 = 0) k ‹_›
    have hk : (k + 1 - 1 : Fin 10) = k := by simp
    exact ⟨h.1, fun _ => ⟨a, b, c, by simp [drivers, hk, h0, e.1, e.2],
      fun _ => d.2.1 (by simp [hp]), by simp, by simp⟩⟩
  · have h9 : k = 9 := by apply Fin.ext; have := k.isLt; show k.val = 9; omega
    subst h9
    have e2 : s.datLo = false := by simpa [txbit, hs.1] using e.2
    split
    · exact ⟨h.1, fun _ => ⟨a, b, c, by simp [drivers, e.1, e2], fun _ => d.2.1 (by simp [hp]),
        fun _ => by assumption, by simp⟩⟩
    · exact inv_txComplete h e.1 e2

/-- The line acknowledge goes from one of its phases to another (R156, R157). -/
theorem inv_ackPhase {s : State} {p : TxPhase} (h : BlockInv s)
    (hs : s.txPhase = .ack1 ∨ s.txPhase = .ack2 ∨ s.txPhase = .ack3)
    (hp : p = .ack1 ∨ p = .ack2 ∨ p = .ack3) : BlockInv { s with txPhase := p } := by
  refine ⟨h.1, fun hi => ?_⟩
  obtain ⟨a, b, c, d⟩ := h.2 hi
  have e : (s.clkLo, s.datLo) = (false, false) := by
    rw [d.1]; rcases hs with h | h | h <;> rw [h] <;> rfl
  have hn : s.txPhase ≠ .idle := by rcases hs with h | h | h <;> simp [h]
  refine ⟨a, b, c, ?_, fun _ => d.2.1 hn, fun _ => d.2.2.1 hs, ?_⟩
  · dsimp only; rw [e]; rcases hp with h | h | h <;> rw [h] <;> rfl
  · rcases hp with h | h | h <;> simp [h]

end Sys2Proof.Machine
end

