-- ==== Sys2Proof/Tests/Slice0.lean ====
section
/-! SUPPORT. The model's own tests: ill-formed operands, words written out from the encodings of
30_encoding.md, single steps with the results of 95_test_vectors.md, and for each statement with
hypotheses a state that meets them. -/

namespace Sys2Proof.Tests

open Sys2Proof Sys2Proof.Machine

/-! ### Well-formedness: what each check refuses -/

theorem test_wf_enqueue_empty : Instr.wf defaultConfig (.enqueue []) = false := by decide
theorem test_wf_replyOther_ack : Instr.wf defaultConfig (.replyOther 0xFA) = false := by decide
theorem test_wf_replyOther_nak : Instr.wf defaultConfig (.replyOther 0xFE) = false := by decide
theorem test_wf_releaseOther_break :
    Instr.wf defaultConfig (.keyReleaseOther 0xF0) = false := by decide
theorem test_wf_releaseOther_shift :
    Instr.wf defaultConfig (.keyReleaseOther 0x12) = false ∧
    Instr.wf defaultConfig (.keyReleaseOther 0x59) = false := by decide
theorem test_wf_pressHigh :
    Instr.wf defaultConfig (.keyPressHigh 0xF0) = false ∧
    Instr.wf defaultConfig (.keyPressHigh 0x7F) = false ∧
    Instr.wf defaultConfig (.keyPressHigh 0x80) = true := by decide
theorem test_wf_pressMapped :
    Instr.wf defaultConfig (.keyPressMapped 0x12) = false ∧
    Instr.wf defaultConfig (.keyPressMapped 0x59) = false ∧
    Instr.wf defaultConfig (.keyPressMapped 0x58) = false ∧
    Instr.wf defaultConfig (.keyPressMapped 0x80) = false ∧
    Instr.wf defaultConfig (.keyPressMapped 0xF0) = false ∧
    Instr.wf defaultConfig (.keyPressMapped 0x7F) = true := by decide
theorem test_wf_command_length :
    Instr.wf defaultConfig (.cmdArbitrary []) = false ∧
    Instr.wf defaultConfig (.cmdArbitrary (List.replicate 9 0)) = false ∧
    Instr.wf defaultConfig (.cmdArbitrary (List.replicate 8 0)) = true ∧
    Instr.wf { defaultConfig with queueCap := 4 } (.cmdArbitrary (List.replicate 5 0)) = false := by
  decide

/-- R12: the default parameters meet the constraints. -/
theorem test_config_default : defaultConfig.valid = true := by decide
theorem test_config_codes_distinct :
    { defaultConfig with scRshift := 0x12 }.valid = false := by decide
theorem test_config_codes_mapped :
    { defaultConfig with scCaps := 0x80 }.valid = false := by decide
theorem test_config_replies_distinct :
    { defaultConfig with replyNak := 0xFA }.valid = false := by decide
theorem test_config_led_masks :
    { defaultConfig with ledNum := 0x03 }.valid = false ∧
    { defaultConfig with ledNum := 0x04 }.valid = false ∧
    { defaultConfig with ledNum := 0x08 }.valid = false := by decide
/-- R38, R32: a frame of other sizes, and a capacity that the cursors do not reach. -/
theorem test_config_sized :
    { defaultConfig with dataBits := 7 }.valid = false ∧
    { defaultConfig with frameBits := 12 }.valid = false ∧
    { defaultConfig with queueCap := 16 }.valid = false ∧
    { defaultConfig with queueCap := 15 }.valid = true := by decide
theorem test_config_keymap_pinned : { defaultConfig with keymap := [] }.valid = false := by decide

/-- R197: two rows of the reference table, and an unlisted entry. -/
theorem test_keymap_entries :
    keymapAt defaultConfig 0x1C = ⟨0x61, 0x41⟩ ∧ keymapAt defaultConfig 0x5D = ⟨0x5C, 0x7C⟩ ∧
    keymapAt defaultConfig 0x0D = ⟨0, 0⟩ := by decide
theorem test_keymap_size : referenceKeymap.length = 48 := by decide

/-! ### Decoding: words written out from the encodings -/

/-- R91, R97: 0x1C on the wire, f0 at bit 0: stop 1, parity 0, data 00011100, start 0. -/
theorem test_decode_frame :
    decodeFrame (0b10000111000#11) = .frame false 0x1C false true := by decide
/-- V1: FW(0xFF) is 0x7FE. -/
theorem test_decode_frame_ff : decodeFrame (0x7FE#11) = .frame false 0xFF true true := by decide
/-- R121: Idle is 00. -/
theorem test_decode_rxStart : decodeRx 0b001#3 = .rxStart true := by decide
/-- R121: Data is 01. -/
theorem test_decode_rxData : decodeRx 0b010#3 = .rxData false := by decide
/-- R121: ParityBit is 10. -/
theorem test_decode_rxParity : decodeRx 0b101#3 = .rxParity true := by decide
/-- R121: StopBit is 11. -/
theorem test_decode_rxStop : decodeRx 0b110#3 = .rxStop false := by decide
/-- R99: an error frame, even of the byte 0xFA. -/
theorem test_decode_replyFrameError :
    decodeReply defaultConfig false 0b111111010#9 = .replyFrameError 0xFA := by decide
theorem test_decode_replyAck :
    decodeReply defaultConfig false 0b011111010#9 = .replyAck := by decide
theorem test_decode_replyNak :
    decodeReply defaultConfig false 0b011111110#9 = .replyNak := by decide
/-- R150: a NAK where nothing was sent. -/
theorem test_decode_replyNakGuard :
    decodeReply defaultConfig true 0b011111110#9 = .replyNakGuard := by decide
theorem test_decode_replyOther :
    decodeReply defaultConfig false 0b000011100#9 = .replyOther 0x1C := by decide
/-- R100: an error frame with a release pending. -/
theorem test_decode_keyError :
    decodeKey defaultConfig 0b1111110000#10 = .keyError true 0xF0 := by decide
theorem test_decode_keyBreak : decodeKey defaultConfig 0b0011110000#10 = .keyBreak false := by decide
theorem test_decode_keyReleaseShiftL :
    decodeKey defaultConfig 0b1000010010#10 = .keyReleaseShiftL := by decide
theorem test_decode_keyReleaseShiftR :
    decodeKey defaultConfig 0b1001011001#10 = .keyReleaseShiftR := by decide
/-- R183: the release of caps-lock is an ordinary release. -/
theorem test_decode_keyReleaseOther :
    decodeKey defaultConfig 0b1001011000#10 = .keyReleaseOther 0x58 := by decide
theorem test_decode_keyPressShiftL :
    decodeKey defaultConfig 0b0000010010#10 = .keyPressShiftL := by decide
theorem test_decode_keyPressShiftR :
    decodeKey defaultConfig 0b0001011001#10 = .keyPressShiftR := by decide
theorem test_decode_keyPressCaps :
    decodeKey defaultConfig 0b0001011000#10 = .keyPressCaps := by decide
/-- R187: 0x80 is the lowest code above the map. -/
theorem test_decode_keyPressHigh :
    decodeKey defaultConfig 0b0010000000#10 = .keyPressHigh 0x80 := by decide
/-- R188: 0x7F is the highest mapped code. -/
theorem test_decode_keyPressMapped :
    decodeKey defaultConfig 0b0001111111#10 = .keyPressMapped 0x7F := by decide
/-- R152 to R158: clk_i in bit 1, dat_i in bit 0. -/
theorem test_decode_txSettle :
    decode defaultConfig .txSettle [0b10] = .ok (.txSettle true false, []) := by rfl
theorem test_decode_txWlow :
    decode defaultConfig .txWlow [0b01] = .ok (.txWlow false true, []) := by rfl
theorem test_decode_txWhigh :
    decode defaultConfig .txWhigh [0b10] = .ok (.txWhigh true false, []) := by rfl
theorem test_decode_txAck1 :
    decode defaultConfig .txAck1 [0b10] = .ok (.txAck1 true false, []) := by rfl
theorem test_decode_txAck2 :
    decode defaultConfig .txAck2 [0b01] = .ok (.txAck2 false true, []) := by rfl
theorem test_decode_txAck3 :
    decode defaultConfig .txAck3 [0b11] = .ok (.txAck3 true true, []) := by rfl
/-- R104, R105: 0xED, then caps in bit 2 and scroll in bit 0. -/
theorem test_decode_cmdSetLeds :
    decode defaultConfig .command2 [0b11101101, 0b00000101] =
      .ok (.cmdSetLeds true false true, []) := by rfl
/-- R103: a command's bytes are not interpreted. -/
theorem test_decode_cmdArbitrary :
    decode defaultConfig .commandN [0xED, 0xFF, 0x00] =
      .ok (.cmdArbitrary [0xED, 0xFF, 0x00], []) := by rfl
/-- A frame's word in bytes leaves the next bytes alone. -/
theorem test_decode_frame_rest :
    decode defaultConfig .wireFrame [0x38, 0x04, 0xAA] =
      .ok (.frame false 0x1C false true, [0xAA]) := by rfl

/-- Bytes that are no word of the format are rejected by name. -/
theorem test_decode_rejects :
    decode defaultConfig .wireFrame [0x38] = .error .truncated ∧
    decode defaultConfig .wireFrame [0x38, 0x08] = .error .unusedBits ∧
    decode defaultConfig .replyEvent [0xFA, 0x02] = .error .unusedBits ∧
    decode defaultConfig .command2 [0xED, 0x10] = .error .ledBitsReserved ∧
    decode defaultConfig .command2 [0xEE, 0x01] = .error .notSetLeds ∧
    decode defaultConfig .commandN (List.replicate 9 0) = .error .commandTooLong := by
  refine ⟨rfl, rfl, rfl, rfl, rfl, rfl⟩

/-- R97: the frame words of the values the spec uses, and V1's. -/
theorem test_frame_words :
    fw 0x12 = 0x624#11 ∧ fw 0x1C = 0x438#11 ∧ fw 0xF0 = 0x7E0#11 ∧
    fw 0x00 = 0x600#11 ∧ fw 0x7F = 0x4FE#11 ∧ fw 0x80 = 0x500#11 ∧ fw 0xF4 = 0x5E8#11 := by decide

/-- A table word, and the state in which the next step runs it. -/
theorem test_table_word :
    decodeTableWord 11 0x438 = some (.frame false 0x1C false true) ∧
    decodeTableWord 16 0xED04 = some (.cmdSetLeds true false false) := by decide
theorem test_withFetchWord_runs :
    (nextOf (step (State.reset.withFetchWord 10 0x01C))).map (·.out) =
      some [.emit 0x61] := by decide

/-! ### States the tests start from -/

/-- A queue whose first `head` bytes have been sent and whose last one awaits its reply. -/
def queued (head : BitVec 4) (bytes : List Byte) : State :=
  { State.reset with
    awaiting := true, cqHead := head, cqTail := BitVec.ofNat 4 bytes.length,
    buf := Memory.writeAll [] 0 bytes }

/-- A transmission of `v` in a phase, with that phase's drivers. -/
def sending (v : Byte) (p : TxPhase) : State :=
  { queued 1 [v] with
    txByte := v, txPhase := p, clkLo := (drivers defaultConfig v p).1,
    datLo := (drivers defaultConfig v p).2, caller := some .ok, cfg := { defaultConfig with txLineAck := .wait } }

/-- The receiver at a point of a frame. -/
def receiving (x : RxState) (n : BitVec 4) (a : Byte) (e : RxErr) : State :=
  { State.reset with rxState := x, rxCount := n, rxAcc := a, rxErr := e }

/-- The Key Handler with these modifiers and this release flag. -/
def keys (m : Mods) (r : Bool) : State := { State.reset with mods := m, relPend := r }

/-- The last bit of an acknowledge to come, with a byte left to send. -/
def midReply : State :=
  { queued 1 [0xED, 0x04] with rxState := .stopBit, rxCount := 8, rxAcc := 0xFA }

/-- The state before the first INIT. -/
def unready : State := { State.reset with initialised := false }

/-! ### Single steps -/

/-- R260, R210: INIT clears the queue and keeps the trace. -/
theorem test_init :
    (nextOf (exec .init { queued 1 [0xF4] with out := [.emit 0x61] })).map
      (fun t => (t.cqHead, t.cqTail, t.awaiting, t.out)) = some (0, 0, false, [.emit 0x61]) := by
  decide
theorem test_init_busy : nextOf (exec .init (sending 0xED .settle)) = none := by decide
/-- V2: a first poll with the clock low observes a start bit. -/
theorem test_step_edge :
    (nextOf (exec (.step false false) State.reset)).map (fun t => (t.prevClk, t.rxState)) =
      some (false, .data) := by decide
theorem test_step_no_edge :
    (nextOf (exec (.step false false) { State.reset with prevClk := false })).map
      (fun t => (t.prevClk, t.rxState)) = some (false, .idle) := by decide
/-- V4: a mask of 0xFF changes the three LED bits only. -/
theorem test_requestLed :
    (nextOf (exec (.requestLed 0xFF true) State.reset)).map
      (fun t => (t.leds, t.buf, t.txByte, t.txPhase)) =
      some (0b111, [(0, 0xED), (1, 0x07)], 0xED, .settle) := by decide
/-- V4: a request behind seven bytes is Full and leaves the LED state. -/
theorem test_requestLed_full :
    (nextOf (exec (.requestLed 0x04 true) (queued 1 [1, 2, 3, 4, 5, 6, 7]))).map
      (fun t => (t.leds, t.cqTail, t.results)) = some (0, 7, [.full]) := by decide
/-- R11, R140: the capacity is the parameter `QUEUE_CAP`. -/
theorem test_queueCap :
    (nextOf (exec (.enqueue [0xED, 0x02])
      { queued 1 [1, 2, 3] with cfg := { defaultConfig with queueCap := 4 } })).map
      (fun t => (t.cqTail, t.results)) = some (3, [.full]) ∧
    (nextOf (exec (.enqueue [0xED])
      { queued 1 [1, 2, 3] with cfg := { defaultConfig with queueCap := 4 } })).map
      (fun t => (t.cqTail, t.results)) = some (4, [.ok]) := by decide
/-- R11, R187: the last mapped code is the parameter `MAP_LIMIT`. -/
theorem test_mapLimit :
    decodeKey { defaultConfig with mapLimit := 0x60 } 0b0001100001#10 = .keyPressHigh 0x61 ∧
    decodeKey { defaultConfig with mapLimit := 0x60 } 0b0001100000#10 = .keyPressMapped 0x60 := by
  decide
/-- R73: stale bytes stay, and the byte 0x00 is stored as any other. -/
theorem test_buffer_zero :
    Memory.write (Memory.write [(0, 0xED), (2, 0x05)] 0 0x00) 1 0x04 = [(1, 0x04), (2, 0x05)] ∧
    Memory.wf [(1, 0x04), (2, 0x05)] = true ∧ Memory.wf [(1, 0x00)] = false ∧
    Memory.wf [(2, 0x05), (1, 0x04)] = false := by decide
/-- V4: a command behind an awaited byte is appended and not sent. -/
theorem test_enqueue_appends :
    (nextOf (exec (.enqueue [0xED, 0x02]) (queued 1 [0xF4]))).map
      (fun t => (t.cqTail, t.buf, t.txPhase, t.results)) =
      some (3, [(0, 0xF4), (1, 0xED), (2, 0x02)], .idle, [.ok]) := by decide
/-- P4: five bytes and four do not fit. -/
theorem test_enqueue_full :
    (nextOf (exec (.enqueue [6, 7, 8, 9]) (queued 1 [1, 2, 3, 4, 5]))).map
      (fun t => (t.cqTail, t.results)) = some (5, [.full]) := by decide
/-- V3: a frame with all three checks wrong shows its first error only. -/
theorem test_frame_first_error :
    (nextOf (exec (.frame true 0x1C true false) State.reset)).map
      (fun t => (t.out, t.rxState, t.relPend, t.prevClk)) =
      some ([.diag .startBit], .idle, false, false) := by decide
/-- W5: a whole frame of the caps-lock code. -/
theorem test_frame_caps :
    (nextOf (exec (decodeFrame (fw 0x58)) State.reset)).map
      (fun t => (t.mods.bits, t.leds, t.buf, t.awaiting)) =
      some (0b100, 0b100, [(0, 0xED), (1, 0x04)], true) := by decide
/-- V3: a start bit of 1. -/
theorem test_rxStart :
    (nextOf (exec (.rxStart true) State.reset)).map (fun t => (t.rxState, t.rxErr)) =
      some (.data, .start) := by decide
/-- V3: a 1 at count 2. -/
theorem test_rxData :
    (nextOf (exec (.rxData true) (receiving .data 2 0x00 .none))).map
      (fun t => (t.rxState, t.rxCount, t.rxAcc)) = some (.data, 3, 0x04) := by decide
/-- V3: the eighth data bit. -/
theorem test_rxData_last :
    (nextOf (exec (.rxData true) (receiving .data 7 0x00 .none))).map
      (fun t => (t.rxState, t.rxCount, t.rxAcc)) = some (.parityBit, 8, 0x80) := by decide
/-- V3: a wrong parity bit, without and with an earlier error. -/
theorem test_rxParity :
    (nextOf (exec (.rxParity true) (receiving .parityBit 8 0x1C .none))).map (·.rxErr) =
      some .parity := by decide
theorem test_rxParity_keeps_first :
    (nextOf (exec (.rxParity true) (receiving .parityBit 8 0x1C .start))).map (·.rxErr) =
      some .start := by decide
/-- V3: a wrong stop bit. -/
theorem test_rxStop :
    (nextOf (exec (.rxStop false) (receiving .stopBit 8 0x1C .none))).map
      (fun t => (t.rxState, t.rxAcc, t.rxErr, t.out)) =
      some (.idle, 0x00, .none, [.diag .stopBit]) := by decide
/-- V5: an erroneous ACK gives two diagnostics, the receiver's first. -/
theorem test_rxStop_reply :
    (nextOf (exec (.rxStop true)
      { queued 1 [0xED, 0x04] with
        rxState := .stopBit, rxCount := 8, rxAcc := 0xFA, rxErr := .parity })).map
      (fun t => (t.out, t.cqTail, t.awaiting)) =
      some ([.diag .parity, .diag .replyFrame], 0, false) := by decide
theorem test_observeBit :
    (nextOf (exec (.observeBit false) (receiving .parityBit 8 0x1C .none))).map
      (fun t => (t.rxState, t.rxErr)) = some (.stopBit, .none) := by decide
/-- R126: the same byte, in the two contexts. -/
theorem test_deliver_reply :
    (nextOf (exec (.deliver 0xFA false) (queued 1 [0xF4]))).map (·.awaiting) =
      some false := by decide
theorem test_deliver_key :
    nextOf (exec (.deliver 0xFA false) State.reset) = some State.reset := by decide
/-- V5: an unexpected reply empties the queue. -/
theorem test_cqReply :
    (nextOf (exec (.cqReply 0xF0 false) (queued 1 [0xED, 0x04]))).map
      (fun t => (t.cqHead, t.cqTail, t.awaiting, t.out, t.relPend)) =
      some (0, 0, false, [.diagByte .unexpectedReply 0xF0], false) := by decide
/-- V5: an acknowledge in the middle of a command. -/
theorem test_replyAck_next :
    (nextOf (exec .replyAck (queued 1 [0xED, 0x04]))).map
      (fun t => (t.cqHead, t.cqTail, t.txByte, t.txPhase)) = some (2, 2, 0x04, .settle) := by
  decide
/-- V5: an acknowledge of the last byte. -/
theorem test_replyAck_drains :
    (nextOf (exec .replyAck (queued 2 [0xED, 0x04]))).map
      (fun t => (t.cqHead, t.cqTail, t.awaiting, t.txPhase)) = some (0, 0, false, .idle) := by
  decide
/-- V5: a NAK sends the same byte again. -/
theorem test_replyNak :
    (nextOf (exec .replyNak (queued 1 [0xED, 0x04]))).map
      (fun t => (t.cqHead, t.cqTail, t.txByte, t.awaiting)) = some (1, 2, 0xED, true) := by decide
/-- V5: an erroneous reply. -/
theorem test_replyFrameError :
    (nextOf (exec (.replyFrameError 0xFE) (queued 1 [0xED, 0x04]))).map
      (fun t => (t.out, t.awaiting)) = some ([.diag .replyFrame], false) := by decide
/-- W7: a third-party byte. -/
theorem test_replyOther :
    (nextOf (exec (.replyOther 0x00) (queued 1 [0xF4]))).map (fun t => (t.out, t.cqTail)) =
      some ([.diagByte .unexpectedReply 0x00], 0) := by decide
/-- V5: a NAK with nothing sent. -/
theorem test_replyNakGuard :
    (nextOf (exec .replyNakGuard { State.reset with awaiting := true })).map
      (fun t => (t.out, t.awaiting)) = some ([.diagByte .unexpectedReply 0xFE], false) := by
  decide
theorem test_discard :
    (nextOf (exec .discard (queued 1 [0xED, 0x04]))).map
      (fun t => (t.cqHead, t.cqTail, t.awaiting)) = some (0, 0, false) := by decide
/-- V6: the bus request. -/
theorem test_send :
    (nextOf (exec (.send 0xED) State.reset)).map
      (fun t => (t.awaiting, t.txPhase, t.clkLo, t.datLo)) = some (true, .settle, true, false) := by
  decide
theorem test_txBegin :
    (nextOf (exec (.txBegin 0xED) State.reset)).map (fun t => (t.txByte, t.clkLo, t.datLo)) =
      some (0xED, true, false) := by decide
/-- V6: the start bit. -/
theorem test_txSettle :
    (nextOf (exec (.txSettle false false) (sending 0xED .settle))).map
      (fun t => (t.txPhase, t.clkLo, t.datLo)) = some (.wlow 0, false, true) := by decide
/-- V6: d1 of 0xED is 0, so data is pulled low. -/
theorem test_txWlow :
    (nextOf (exec (.txWlow false false) (sending 0xED (.wlow 1)))).map
      (fun t => (t.txPhase, t.datLo)) = some (.whigh 1, true) := by decide
/-- V6: the parity bit of 0xED is 1. -/
theorem test_txWlow_parity :
    (nextOf (exec (.txWlow false true) (sending 0xED (.wlow 8)))).map
      (fun t => (t.txPhase, t.datLo)) = some (.whigh 8, false) := by decide
/-- V6: after the stop bit's high phase a line acknowledge is waited for. -/
theorem test_txWhigh_ack :
    (nextOf (exec (.txWhigh true false) (sending 0xED (.whigh 9)))).map (·.txPhase) =
      some .ack1 := by decide
/-- V6: without one, the byte is complete and the caller gets its result. -/
theorem test_txWhigh_complete :
    (nextOf (exec (.txWhigh true true)
      { sending 0xED (.whigh 9) with cfg := defaultConfig })).map
      (fun t => (t.txPhase, t.results, t.caller)) = some (.idle, [.ok], none) := by decide
/-- V6: the line acknowledge's phases. -/
theorem test_txAck1 :
    (nextOf (exec (.txAck1 true true) (sending 0xED .ack1))).map (·.txPhase) = some .ack1 ∧
    (nextOf (exec (.txAck1 true false) (sending 0xED .ack1))).map (·.txPhase) =
      some .ack2 := by decide
theorem test_txAck2 :
    (nextOf (exec (.txAck2 true false) (sending 0xED .ack2))).map (·.txPhase) = some .ack2 ∧
    (nextOf (exec (.txAck2 false false) (sending 0xED .ack2))).map (·.txPhase) =
      some .ack3 := by decide
theorem test_txAck3 :
    (nextOf (exec (.txAck3 true false) (sending 0xED .ack3))).map (·.txPhase) = some .ack3 ∧
    (nextOf (exec (.txAck3 true true) (sending 0xED .ack3))).map (·.txPhase) =
      some .idle := by decide
theorem test_txComplete :
    (nextOf (exec .txComplete (sending 0xED .ack3))).map (fun t => (t.txPhase, t.results)) =
      some (.idle, [.ok]) := by decide
/-- V7: F0 F0 leaves a release pending. -/
theorem test_khDecoded :
    (nextOf (exec (.khDecoded 0xF0 false) (keys ⟨false, false, false⟩ true))).map (·.relPend) =
      some true := by decide
/-- V7: an error cancels the release and leaves the shift held. -/
theorem test_keyError :
    nextOf (exec (.keyError true 0x12) (keys ⟨true, false, false⟩ true)) =
      some (keys ⟨true, false, false⟩ false) := by decide
theorem test_keyBreak :
    nextOf (exec (.keyBreak false) (keys ⟨false, false, false⟩ false)) =
      some (keys ⟨false, false, false⟩ true) := by decide
/-- V7: the other shift key stays held. -/
theorem test_keyReleaseShiftL :
    nextOf (exec .keyReleaseShiftL (keys ⟨true, true, false⟩ true)) =
      some (keys ⟨false, true, false⟩ false) := by decide
theorem test_keyReleaseShiftR :
    nextOf (exec .keyReleaseShiftR (keys ⟨false, true, false⟩ true)) =
      some (keys ⟨false, false, false⟩ false) := by decide
/-- V7: the release of caps-lock does nothing. -/
theorem test_keyReleaseOther :
    nextOf (exec (.keyReleaseOther 0x58) (keys ⟨false, false, true⟩ true)) =
      some (keys ⟨false, false, true⟩ false) := by decide
theorem test_keyPressShiftL :
    nextOf (exec .keyPressShiftL (keys ⟨false, false, false⟩ false)) =
      some (keys ⟨true, false, false⟩ false) := by decide
theorem test_keyPressShiftR :
    nextOf (exec .keyPressShiftR (keys ⟨false, false, false⟩ false)) =
      some (keys ⟨false, true, false⟩ false) := by decide
/-- V7: caps-lock on again turns it off, and its LED with it. -/
theorem test_keyPressCaps :
    (nextOf (exec .keyPressCaps { keys ⟨false, false, true⟩ false with leds := 0b100 })).map
      (fun t => (t.mods.bits, t.leds, t.buf, t.txByte)) =
      some (0, 0, [(0, 0xED)], 0xED) := by decide
theorem test_keyPressHigh :
    nextOf (exec (.keyPressHigh 0xE0) (keys ⟨true, false, false⟩ false)) =
      some (keys ⟨true, false, false⟩ false) := by decide
/-- V7: shift and caps together give the regular letter. -/
theorem test_keyPressMapped_letter :
    (nextOf (exec (.keyPressMapped 0x1C) (keys ⟨true, false, true⟩ false))).map (·.out) =
      some [.emit 0x61] := by decide
/-- V7: caps does not touch a digit, shift does. -/
theorem test_keyPressMapped_digit :
    (nextOf (exec (.keyPressMapped 0x16) (keys ⟨false, true, true⟩ false))).map (·.out) =
      some [.emit 0x21] := by decide
/-- R104: the command of the caps LED, as the queue takes it. -/
theorem test_cmdSetLeds :
    (nextOf (exec (.cmdSetLeds true false false) State.reset)).map
      (fun t => (t.leds, t.buf, t.cqHead, t.cqTail)) =
      some (0b100, [(0, 0xED), (1, 0x04)], 1, 2) := by decide
theorem test_cmdArbitrary :
    (nextOf (exec (.cmdArbitrary [0x06, 0x07, 0x08]) (queued 1 [1, 2, 3, 4, 5]))).map
      (fun t => (t.cqTail, t.txPhase)) = some (8, .idle) := by decide

/-- U14, U13, R262: the refusals. -/
theorem test_refusals :
    exec (.enqueue [0xF4]) (sending 0xED .settle) = .refused .busy ∧
    exec (.enqueue []) State.reset = .refused .emptyCommand ∧
    exec .discard unready = .refused .beforeInit ∧
    exec (.rxData true) State.reset = .refused .notSelected ∧
    exec (.txWlow true true) State.reset = .refused .phaseNotCurrent := by
  refine ⟨rfl, rfl, rfl, rfl, rfl⟩
/-- U11, R74: a cursor beyond the buffer, and one at or above the tail, are out of its range. -/
theorem test_fault_range :
    exec .replyNak { State.reset with awaiting := true, cqHead := 10, cqTail := 10 } =
      .fault .bufferRange ∧
    exec .replyNak { State.reset with awaiting := true, cqHead := 3, cqTail := 2 } =
      .fault .bufferRange := by
  refine ⟨rfl, rfl⟩

/-! ### What meets the statements' hypotheses -/

theorem test_witness_InitEstablishesResetState :
    State.reset.txPhase = .idle ∧ (queued 1 [0xF4]).txPhase = .idle := by decide
/-- Before INIT in any phase. -/
theorem test_witness_FirstInitIsAccepted :
    unready.initialised = false ∧ RunOk unready ∧
    { unready with txPhase := .ack1 }.initialised = false := by decide
theorem test_witness_NothingRunsBeforeInit :
    unready.initialised = false ∧ Instr.step true true ≠ .init := by decide
theorem test_witness_BusyRunsOnlyTheCurrentPhase :
    Transmitting (sending 0xED (.wlow 0)) ∧ isTransmitRow .init = false ∧
    (nextOf (exec (.txWlow true true) (sending 0xED (.wlow 0)))).isSome = true ∧
    Transmitting (sending 0xED .ack3) ∧
    (nextOf (exec .txComplete (sending 0xED .ack3))).isSome = true := by decide
/-- No stimulus, one that selects a row, and one that has no step. -/
theorem test_witness_StepRunsTheNextStimulus :
    State.reset.inputs = [] ∧
    (present .init State.reset).inputs = .init :: [] ∧
    fetch (present .init State.reset) .init = .ok .init ∧
    (present (.txp true true) State.reset).inputs = .txp true true :: [] ∧
    fetch (present (.txp true true) State.reset) (.txp true true) =
      .error .phaseNotCurrent := by
  refine ⟨rfl, rfl, rfl, rfl, rfl⟩
theorem test_witness_StimulusSelectsItsRow :
    State.reset.txPhase = .idle ∧ (sending 0 .settle).txPhase = .settle ∧
    (sending 0 (.wlow 9)).txPhase = .wlow 9 ∧ (sending 0 (.whigh 9)).txPhase = .whigh 9 ∧
    (sending 0 .ack1).txPhase = .ack1 ∧ (sending 0 .ack2).txPhase = .ack2 ∧
    (sending 0 .ack3).txPhase = .ack3 := by decide
/-- A falling edge, and a poll at either edge of it. -/
theorem test_witness_PollObservesFallingEdges :
    Ready State.reset ∧ (State.reset.prevClk = true ∧ false = false) ∧
    ¬(State.reset.prevClk = true ∧ true = false) ∧
    ¬({ State.reset with prevClk := false }.prevClk = true ∧ false = false) := by decide
theorem test_witness_ObservedBitSelectsReceiveRow :
    Ready State.reset ∧ State.reset.rxState = .idle ∧
    Ready (receiving .data 0 0 .none) ∧ (receiving .data 0 0 .none).rxState = .data ∧
    (receiving .parityBit 8 0 .none).rxState = .parityBit ∧
    (receiving .stopBit 8 0 .none).rxState = .stopBit := by decide
theorem test_witness_StartBitOpensFrame :
    Ready State.reset ∧ State.reset.rxState = .idle := by decide
/-- The first and the last data bit. -/
theorem test_witness_DataBitEntersAccumulator :
    (Ready (receiving .data 0 0 .none) ∧ (receiving .data 0 0 .none).rxState = .data ∧
      (receiving .data 0 0 .none).rxCount.toNat < defaultConfig.dataBits) ∧
    (Ready (receiving .data 7 0 .none) ∧ (receiving .data 7 0 .none).rxState = .data ∧
      (receiving .data 7 0 .none).rxCount.toNat < defaultConfig.dataBits) := by decide
theorem test_witness_ParityBitIsChecked :
    Ready (receiving .parityBit 8 0x1C .none) ∧
    (receiving .parityBit 8 0x1C .none).rxState = .parityBit := by decide
/-- The stop bit of a good frame, whose delivery completes, in a state with the invariant. -/
theorem test_witness_StopBitDeliversAndResets :
    Ready (receiving .stopBit 8 0x1C .none) ∧
    (receiving .stopBit 8 0x1C .none).rxState = .stopBit ∧
    (nextOf (exec (.deliver 0x1C false) (receiving .stopBit 8 0x1C .none))).isSome = true ∧
    BlockInv (receiving .stopBit 8 0x1C .none) := by decide
theorem test_witness_DeliveryIsRouted : Ready (queued 1 [0xF4]) ∧ Ready State.reset := by decide
/-- A delivery in reply context and one in key context. -/
theorem test_witness_DeliveryCompletes :
    Ready (queued 1 [0xF4]) ∧ BlockInv (queued 1 [0xF4]) ∧ (queued 1 [0xF4]).awaiting = true ∧
    Ready State.reset ∧ BlockInv State.reset ∧ State.reset.awaiting = false := by
  refine ⟨?_, ?_, ?_, ?_, ?_, ?_⟩ <;> decide
/-- Every row of the transition table. -/
theorem test_witness_ReceiveStateTransitions :
    (Ready State.reset ∧ BlockInv State.reset ∧ State.reset.rxState = .idle) ∧
    (Ready (receiving .data 6 0x1C .none) ∧ BlockInv (receiving .data 6 0x1C .none) ∧
      (receiving .data 6 0x1C .none).rxCount.toNat + 1 < defaultConfig.dataBits) ∧
    (Ready (receiving .data 7 0x1C .none) ∧ BlockInv (receiving .data 7 0x1C .none) ∧
      (receiving .data 7 0x1C .none).rxCount.toNat + 1 = defaultConfig.dataBits) ∧
    (Ready (receiving .parityBit 8 0x1C .none) ∧ BlockInv (receiving .parityBit 8 0x1C .none)) ∧
    Ready (receiving .stopBit 8 0x1C .none) ∧ BlockInv (receiving .stopBit 8 0x1C .none) := by
  refine ⟨?_, ?_, ?_, ?_, ?_⟩ <;> decide
theorem test_witness_FrameIsDeliveredWhole :
    Ready State.reset ∧ RxOk State.reset ∧ State.reset.cfg.sized = true ∧
    State.reset.rxState = .idle ∧
    BlockInv State.reset := by decide
theorem test_witness_FrameWordRoundTrip :
    Ready State.reset ∧ RxOk State.reset ∧ State.reset.cfg.sized = true ∧
    State.reset.rxState = .idle ∧ State.reset.awaiting = false := by decide
/-- An idle receiver, and one whose next bit ends a frame that acknowledges a byte: that starts a
transmission after two of the twenty-two polls. -/
theorem test_witness_FrameIsItsSteps :
    (Ready State.reset ∧ BlockInv State.reset) ∧
    (Ready midReply ∧ BlockInv midReply ∧
      (nextOf (exec (.frame true 0x1C false true) midReply)).map
        (fun t => (t.txPhase, t.inputs.length)) = some (.settle, 20)) := by
  refine ⟨⟨?_, ?_⟩, ?_, ?_, ?_⟩ <;> decide
/-- One byte too many, and a command that never fits. -/
theorem test_witness_EnqueueWithoutSpaceIsFull :
    (Ready (queued 1 [1, 2, 3, 4, 5]) ∧ ([6, 7, 8, 9] : List Byte) ≠ [] ∧
      defaultConfig.queueCap <
        (queued 1 [1, 2, 3, 4, 5]).cqTail.toNat + ([6, 7, 8, 9] : List Byte).length) ∧
    (Ready State.reset ∧ List.replicate 9 (0 : Byte) ≠ [] ∧
      defaultConfig.queueCap <
        State.reset.cqTail.toNat + (List.replicate 9 (0 : Byte)).length) := by decide
/-- A command that fills the buffer behind an awaited byte, and one that fills an idle queue. -/
theorem test_witness_EnqueueStoresAndStarts :
    (Ready (queued 1 [1, 2, 3, 4, 5]) ∧ QueueOk (queued 1 [1, 2, 3, 4, 5]) ∧
      (queued 1 [1, 2, 3, 4, 5]).cfg.sized = true ∧
      (queued 1 [1, 2, 3, 4, 5]).cqTail.toNat + ([6, 7, 8] : List Byte).length ≤
        defaultConfig.queueCap ∧
      (queued 1 [1, 2, 3, 4, 5]).awaiting = true) ∧
    (Ready State.reset ∧ QueueOk State.reset ∧ State.reset.cfg.sized = true ∧
      State.reset.cqTail.toNat + (List.replicate 8 (0 : Byte)).length ≤ defaultConfig.queueCap ∧
      State.reset.awaiting = false) := by decide
theorem test_witness_EmptyEnqueueIsRefused : Ready State.reset := by decide
/-- A request that does not fit, one that just fits, and one at an idle queue. -/
theorem test_witness_LedRequestStoresCommand :
    (Ready (queued 1 [1, 2, 3, 4, 5, 6, 7]) ∧
      defaultConfig.queueCap < (queued 1 [1, 2, 3, 4, 5, 6, 7]).cqTail.toNat + 2) ∧
    (Ready (queued 1 [1, 2, 3, 4, 5, 6]) ∧ QueueOk (queued 1 [1, 2, 3, 4, 5, 6]) ∧
      (queued 1 [1, 2, 3, 4, 5, 6]).cfg.sized = true ∧
      (queued 1 [1, 2, 3, 4, 5, 6]).cqTail.toNat + 2 ≤ defaultConfig.queueCap ∧
      (queued 1 [1, 2, 3, 4, 5, 6]).awaiting = true) ∧
    (Ready State.reset ∧ QueueOk State.reset ∧ State.reset.cfg.sized = true ∧
      State.reset.cqTail.toNat + 2 ≤ defaultConfig.queueCap ∧
      State.reset.awaiting = false) := by decide
/-- Formats that fit an idle queue and behind an awaited byte, and formats one byte too long. -/
theorem test_witness_CommandFormatsAreStored :
    (Ready State.reset ∧ QueueOk State.reset ∧ State.reset.cfg.sized = true ∧
      State.reset.cfg.valid = true ∧
      State.reset.cqTail.toNat + (List.replicate 8 (0 : Byte)).length ≤ defaultConfig.queueCap ∧
      State.reset.cqTail.toNat + 2 ≤ defaultConfig.queueCap ∧ State.reset.awaiting = false) ∧
    (Ready (queued 1 [1, 2, 3, 4, 5, 6]) ∧ QueueOk (queued 1 [1, 2, 3, 4, 5, 6]) ∧
      (queued 1 [1, 2, 3, 4, 5, 6]).cfg.valid = true ∧
      (queued 1 [1, 2, 3, 4, 5, 6]).cqTail.toNat + 2 ≤ defaultConfig.queueCap ∧
      (queued 1 [1, 2, 3, 4, 5, 6]).awaiting = true) ∧
    (Ready (queued 1 [1, 2, 3, 4, 5, 6, 7]) ∧ ([8, 9] : List Byte) ≠ [] ∧
      defaultConfig.queueCap <
        (queued 1 [1, 2, 3, 4, 5, 6, 7]).cqTail.toNat + ([8, 9] : List Byte).length ∧
      defaultConfig.queueCap < (queued 1 [1, 2, 3, 4, 5, 6, 7]).cqTail.toNat + 2) := by decide
theorem test_witness_ReplyDispatchAgreesWithDecoder :
    Ready (queued 1 [0xF4]) ∧ (queued 1 [0xF4]).awaiting = true := by decide
theorem test_witness_DiscardEmptiesTheQueue : Ready (queued 1 [0xF4]) := by decide
/-- The last unsent byte of a full buffer, and a queue whose bytes have all been sent. -/
theorem test_witness_AckAdvancesOrDrains :
    (Ready (queued 7 [1, 2, 3, 4, 5, 6, 7, 8]) ∧
      (queued 7 [1, 2, 3, 4, 5, 6, 7, 8]).awaiting = true ∧
      (queued 7 [1, 2, 3, 4, 5, 6, 7, 8]).cqHead.toNat <
        (queued 7 [1, 2, 3, 4, 5, 6, 7, 8]).cqTail.toNat ∧
      (queued 7 [1, 2, 3, 4, 5, 6, 7, 8]).cqTail.toNat ≤ defaultConfig.queueCap) ∧
    (Ready (queued 8 [1, 2, 3, 4, 5, 6, 7, 8]) ∧
      (queued 8 [1, 2, 3, 4, 5, 6, 7, 8]).awaiting = true ∧
      (queued 8 [1, 2, 3, 4, 5, 6, 7, 8]).cqTail.toNat ≤
        (queued 8 [1, 2, 3, 4, 5, 6, 7, 8]).cqHead.toNat) := by decide
/-- The first and the last byte of the buffer. -/
theorem test_witness_NakSendsTheSameByteAgain :
    (Ready (queued 1 [0xF4]) ∧ (queued 1 [0xF4]).awaiting = true ∧ QueueOk (queued 1 [0xF4])) ∧
    (Ready (queued 8 [1, 2, 3, 4, 5, 6, 7, 8]) ∧
      (queued 8 [1, 2, 3, 4, 5, 6, 7, 8]).awaiting = true ∧
      QueueOk (queued 8 [1, 2, 3, 4, 5, 6, 7, 8])) := by decide
theorem test_witness_BadRepliesDiscardTheQueue :
    Ready (queued 1 [0xF4]) ∧ (queued 1 [0xF4]).awaiting = true ∧
    Ready { State.reset with awaiting := true } ∧
    { State.reset with awaiting := true }.cqHead = 0 := by decide
theorem test_witness_SendMakesTheBusRequest : Ready State.reset := by decide
theorem test_witness_SettleDrivesTheStartBit :
    (sending 0xED .settle).initialised = true ∧ (sending 0xED .settle).txPhase = .settle := by
  decide
/-- A data bit, the parity bit and the stop bit. -/
theorem test_witness_LowPhaseDrivesTheBit :
    (sending 0xED (.wlow 7)).initialised = true ∧ (sending 0xED (.wlow 7)).txPhase = .wlow 7 ∧
    (sending 0xED (.wlow 8)).txPhase = .wlow 8 ∧ (sending 0xED (.wlow 9)).txPhase = .wlow 9 := by
  decide
/-- The last phase with a successor, and the stop bit with and without the line acknowledge. -/
theorem test_witness_HighPhaseGoesOn :
    ((sending 0xED (.whigh 8)).initialised = true ∧
      (sending 0xED (.whigh 8)).txPhase = .whigh 8 ∧ (9 : Fin 10).val = (8 : Fin 10).val + 1 ∧
      (8 : Fin 10).val + 2 < defaultConfig.frameBits) ∧
    ((sending 0xED (.whigh 9)).txPhase = .whigh 9 ∧ (9 : Fin 10).val = 9 ∧
      defaultConfig.frameBits ≤ (9 : Fin 10).val + 2 ∧
      (sending 0xED (.whigh 9)).cfg.txLineAck = .wait) ∧
    { sending 0xED (.whigh 9) with cfg := defaultConfig }.cfg.txLineAck = .noWait := by decide
theorem test_witness_LineAcknowledgePhases :
    (sending 0xED .ack1).initialised = true ∧ (sending 0xED .ack1).txPhase = .ack1 ∧
    (sending 0xED .ack2).txPhase = .ack2 ∧ (sending 0xED .ack3).txPhase = .ack3 := by decide
/-- Both last phases. -/
theorem test_witness_CompletionReturnsToTheOwner :
    ({ sending 0xED (.whigh 9) with cfg := defaultConfig }.initialised = true ∧
      { sending 0xED (.whigh 9) with cfg := defaultConfig }.txPhase = .whigh 9 ∧
      { sending 0xED (.whigh 9) with cfg := defaultConfig }.cfg.txLineAck = .noWait ∧
      TxOk { sending 0xED (.whigh 9) with cfg := defaultConfig } ∧ defaultConfig.sized = true) ∧
    (sending 0xED .ack3).txPhase = .ack3 ∧ TxOk (sending 0xED .ack3) ∧
    (sending 0xED .ack3).cfg.sized = true := by decide
/-- Ten clock phases with data levels of all four kinds. -/
def clockLevels : List (Level × Level) :=
  [(false, false), (true, false), (false, true), (true, true), (false, false), (true, false),
   (false, true), (true, true), (false, false), (true, true)]

/-- With and without the line acknowledge. -/
theorem test_witness_DeviceClocksCompleteTheByte :
    clockLevels.length = 10 ∧
    ({ sending 0xED .settle with inputs := devRx .wait clockLevels }.initialised = true ∧
      { sending 0xED .settle with inputs := devRx .wait clockLevels }.cfg.sized = true ∧
      { sending 0xED .settle with inputs := devRx .wait clockLevels }.txPhase = .settle ∧
      { sending 0xED .settle with inputs := devRx .wait clockLevels }.inputs =
        devRx (sending 0xED .settle).cfg.txLineAck clockLevels ++ []) ∧
    ({ sending 0xED .settle with
        cfg := defaultConfig, inputs := devRx .noWait clockLevels ++ [Stimulus.init] }.inputs =
      devRx defaultConfig.txLineAck clockLevels ++ [Stimulus.init]) := by
  refine ⟨?_, ⟨?_, ?_, ?_, ?_⟩, ?_⟩ <;> decide
/-- A high clock in a low phase, a low clock in a high phase, and the acknowledge phases. -/
theorem test_witness_StalledDeviceHangsTheBlock :
    (Transmitting { sending 0xED (.wlow 0) with inputs := [.txp true true, .txp true false, .init] } ∧
      (∀ p ∈ [(true, true), (true, false)], lineCondition (.wlow 0) p.1 p.2 = false) ∧
      { sending 0xED (.wlow 0) with
          inputs := [.txp true true, .txp true false, .init] }.inputs =
        [(true, true), (true, false)].map (fun p => Stimulus.txp p.1 p.2) ++ [.init]) ∧
    lineCondition (.whigh 9) false true = false ∧ lineCondition .ack1 true true = false ∧
    lineCondition .ack2 true false = false ∧ lineCondition .ack3 true false = false := by decide
theorem test_witness_KeyDispatchAgreesWithDecoder :
    Ready State.reset ∧ State.reset.awaiting = false := by decide
theorem test_witness_ErrorAndBreakWriteTheReleaseFlag :
    Ready (keys ⟨true, false, false⟩ true) ∧ (keys ⟨true, false, false⟩ true).awaiting = false := by
  decide
theorem test_witness_ReleasesClearTheirShift :
    Ready (keys ⟨true, true, false⟩ true) ∧ (keys ⟨true, true, false⟩ true).awaiting = false ∧
    (keys ⟨true, true, false⟩ true).relPend = true := by decide
theorem test_witness_PressesSetTheirShift :
    Ready State.reset ∧ State.reset.awaiting = false ∧ State.reset.relPend = false := by decide
/-- A request that fits, and one that does not, which with an idle queue takes a built state. -/
theorem test_witness_CapsTogglesAndRequestsLed :
    (Ready State.reset ∧ State.reset.awaiting = false ∧ State.reset.relPend = false ∧
      QueueOk State.reset ∧ State.reset.cfg.sized = true ∧
      State.reset.cqTail.toNat + 2 ≤ defaultConfig.queueCap) ∧
    (Ready { State.reset with cqTail := 7 } ∧ { State.reset with cqTail := 7 }.awaiting = false ∧
      defaultConfig.queueCap < { State.reset with cqTail := 7 }.cqTail.toNat + 2) := by decide
theorem test_witness_MappedPressEmitsSelectedCharacter :
    Ready (keys ⟨true, false, true⟩ false) ∧ (keys ⟨true, false, true⟩ false).awaiting = false ∧
    (keys ⟨true, false, true⟩ false).relPend = false := by decide
theorem test_witness_EveryStepKeepsTheInvariant :
    BlockInv (present (.step false false) State.reset) ∧
    (nextOf (step (present (.step false false) State.reset))).isSome = true ∧
    BlockInv (present (.txp true true) (sending 0xED .ack3)) ∧
    (nextOf (step (present (.txp true true) (sending 0xED .ack3)))).isSome = true := by
  refine ⟨?_, ?_, ?_, ?_⟩ <;> decide
theorem test_witness_ResetMeetsTheInvariant :
    { defaultConfig with queueCap := 4, txLineAck := .wait }.sized = true := by decide
theorem test_witness_NoFaultUnderTheInvariant : BlockInv (queued 1 [0xF4]) := by decide
theorem test_witness_ConfigurationIsNeverWritten :
    (nextOf (exec (.step true true) State.reset)).isSome = true := by decide
theorem test_witness_ReceiverAndQueueOwnTheirState :
    (runsReceiver .discard = false ∧ (nextOf (exec .discard State.reset)).isSome = true) ∧
    (State.reset.rxState ≠ .stopBit ∧
      (nextOf (exec (.rxStart true) State.reset)).isSome = true) := by decide
theorem test_witness_LedStateChangesWithItsCommand :
    Instr.requestLed 0x04 true ≠ .init ∧
    (nextOf (exec (.requestLed 0x04 true) State.reset)).map (·.leds) = some 0b100 ∧
    State.reset.leds ≠ 0b100 := by decide
/-- The row itself, and a delivery that runs it. -/
theorem test_witness_CharactersComeFromPressesOnly :
    (nextOf (exec (.keyPressMapped 0x1C) State.reset)).map (·.out.count (.emit 0x61)) = some 1 ∧
    (nextOf (exec (.deliver 0x1C false) State.reset)).map (·.out.count (.emit 0x61)) = some 1 ∧
    State.reset.out.count (.emit 0x61) = 0 := by decide
theorem test_witness_TailGrowsUntilDrained :
    (nextOf (exec (.enqueue [0xF4]) State.reset)).isSome = true := by decide
/-- A result at once, one left to be returned, and its return by a transmit row. -/
theorem test_witness_ResultsComeFromTwoOperations :
    (nextOf (exec (.enqueue [0xF4]) (queued 1 [0xED]))).map (·.results) = some [.ok] ∧
    (State.reset.caller ≠ some .ok ∧
      (nextOf (exec (.enqueue [0xF4]) State.reset)).map (fun t => (t.results, t.caller)) =
        some ([], some .ok)) ∧
    ((sending 0xED .ack3).caller = some .ok ∧ isTransmitRow (.txAck3 true true) = true ∧
      (nextOf (exec (.txAck3 true true) (sending 0xED .ack3))).map (·.results) =
        some [.ok]) := by decide
theorem test_witness_TransmissionSendsTheCursorsByte :
    BlockInv (present (.enq [0xF4]) State.reset) ∧ Ready (present (.enq [0xF4]) State.reset) ∧
    (nextOf (step (present (.enq [0xF4]) State.reset))).map (·.txPhase) = some .settle := by decide
theorem test_witness_DecodeInvertsEncode :
    defaultConfig.valid = true ∧ Instr.wf defaultConfig (.keyPressMapped 0x7F) = true ∧
    format (.keyPressMapped 0x7F) = some .keyEvent ∧
    encode defaultConfig (.keyPressMapped 0x7F) = some [0x7F, 0x00] := by decide
theorem test_witness_EncodeInvertsDecode :
    decode defaultConfig .keyEvent [0x7F, 0x00, 0xAA] = .ok (.keyPressMapped 0x7F, [0xAA]) := by
  rfl

end Sys2Proof.Tests
end

