-- ==== Sys2Proof/Proofs/Step.lean ====
section
/-! PROOF. What a step does, one rule for each way it can go: with no stimulus, with one that
selects an instruction, and with one that has no step. -/

namespace Sys2Proof.Machine

/-- R253: with nothing presented the block is inert. -/
theorem step_of_inputs_nil {s : State} (hin : s.inputs = []) : step s = .next s := by
  simp only [step, hin]

/-- R17, R107: the selection reads the state with the stimulus still in it, and the instruction runs
in the state without it. -/
theorem step_of_fetch_ok {s : State} {x : Stimulus} {rest : List Stimulus} {i : Instr}
    (hin : s.inputs = x :: rest) (hfetch : fetch s x = .ok i) :
    step s = exec i { s with inputs := rest } := by
  simp only [step, hin, hfetch]

/-- R107: a stimulus that selects no instruction is refused with the selection's reason. -/
theorem step_of_fetch_error {s : State} {x : Stimulus} {rest : List Stimulus} {r : Refusal}
    (hin : s.inputs = x :: rest) (hfetch : fetch s x = .error r) : step s = .refused r := by
  simp only [step, hin, hfetch]

/-- Settles O6, by the rule for each of the three ways a step can go. -/
theorem stepRunsTheNextStimulus : Obligations.StepRunsTheNextStimulus :=
  ⟨fun _ hin => step_of_inputs_nil hin,
    fun _ _ _ hin => ⟨fun _ hfetch => step_of_fetch_ok hin hfetch,
      fun _ hfetch => step_of_fetch_error hin hfetch⟩⟩

end Sys2Proof.Machine
end

section
/-! PROOF. Postconditions: what is said of the next state of an outcome, where it answers one, and
how that passes through the operations that sequence and guard steps. -/

namespace Sys2Proof.Machine

/-- The next state of the outcome, where it answers one, satisfies `P`. -/
def Answers (P : State → Prop) (o : Outcome) : Prop := ∀ t, o = .next t → P t

variable {P Q : State → Prop} {s t : State} {o : Outcome}

@[simp] theorem answers_next : Answers P (.next t) ↔ P t := by simp [Answers]
@[simp] theorem answers_fault (r : Fault) : Answers P (.fault r) := by simp [Answers]
@[simp] theorem answers_refused (r : Refusal) : Answers P (.refused r) := by simp [Answers]

theorem Answers.mono (h : Answers P o) (hPQ : ∀ t, P t → Q t) : Answers Q o :=
  fun t ht => hPQ t (h t ht)

/-- An operation that completes in `P` answers `P`, since an outcome has one next state. -/
theorem answers_of_completes (h : ∃ t, o = .next t ∧ P t) : Answers P o := by
  obtain ⟨t, rfl, hP⟩ := h
  exact answers_next.2 hP

theorem answers_andThen {f : State → Outcome} :
    Answers P (andThen o f) ↔ Answers (fun u => Answers P (f u)) o := by
  cases o <;> simp

theorem answers_whenReady : Answers P (whenReady s o) ↔ (Ready s → Answers P o) := by
  simp only [Answers, whenReady_eq_next]
  exact ⟨fun h hr t ht => h t ⟨hr, ht⟩, fun h t ht => h ht.1 t ht.2⟩

theorem Answers.ready (h : Answers P o) : Answers P (whenReady s o) :=
  answers_whenReady.2 fun _ => h

theorem answers_whenInitialised :
    Answers P (whenInitialised s o) ↔ (s.initialised = true → Answers P o) := by
  simp only [Answers, whenInitialised_eq_next]
  exact ⟨fun h hr t ht => h t ⟨hr, ht⟩, fun h t ht => h ht.1 t ht.2⟩

theorem answers_whenSelected {b : Bool} :
    Answers P (whenSelected b o) ↔ (b = true → Answers P o) := by
  cases b <;> simp

theorem Answers.selected {b : Bool} (h : Answers P o) : Answers P (whenSelected b o) :=
  answers_whenSelected.2 fun _ => h

end Sys2Proof.Machine
end

section
/-! PROOF. Every step keeps the block's invariant: one lemma for each row that a stimulus selects,
then the step itself. -/

namespace Sys2Proof.Machine

/-! ### Reset -/

/-- The receiver, the queue and the transmitter as reset leaves them, which INIT shares. -/
theorem resetWith_parts_ok (c : Config) :
    RxOk (State.resetWith c) ∧ QueueOk (State.resetWith c) ∧ TxOk (State.resetWith c) := by
  simp [RxOk, QueueOk, TxOk, State.resetWith, drivers]

/-- The reset state meets the invariant under every configuration of the sizes the rules hold. -/
theorem inv_resetWith {c : Config} (hc : c.sized = true) : BlockInv (State.resetWith c) := by
  obtain ⟨hrx, hq, htx⟩ := resetWith_parts_ok c
  have hout : OutOk (State.resetWith c) := by simp [OutOk, State.resetWith]
  exact ⟨⟨hout, hc⟩, fun _ => ⟨hrx, hq, ⟨rfl, by simp [State.resetWith]⟩, htx⟩⟩

/-- INIT needs no more than what holds before it. -/
theorem inv_initState {s : State} (h : RunOk s) : BlockInv (initState s) := by
  obtain ⟨hrx, hq, htx⟩ := resetWith_parts_ok s.cfg
  exact ⟨h, fun _ => ⟨hrx, hq, unspecifiedBuf_ok _ _, htx⟩⟩

/-! ### The owner's operations -/

/-- A result returned, or left waiting while a transmission is in progress, keeps the invariant. -/
theorem inv_returnResult {r : OpResult} {s : State} (h : BlockInv s) :
    BlockInv (returnResult r s) := by
  unfold returnResult
  split
  · exact h
  · refine ⟨h.1, fun hi => ?_⟩
    obtain ⟨hrx, hq, hb, hdrv, haw, hack, _⟩ := h.2 hi
    exact ⟨hrx, hq, hb, hdrv, haw, hack, fun hp => absurd hp ‹_›⟩

/-- INIT is refused, or has its one effect. -/
theorem answers_execInit {P : State → Prop} {s : State} (h : P (initState s)) :
    Answers P (execInit s) := by
  unfold execInit
  split
  · exact answers_refused _
  · exact answers_next.2 h

theorem execInit_inv {s : State} (h : BlockInv s) : Answers BlockInv (execInit s) :=
  answers_execInit (inv_initState h.1)

theorem execStep_inv {s : State} (c d : Level) (h : BlockInv s) :
    Answers BlockInv (execStep c d s) := by
  refine answers_whenReady.2 fun hr => ?_
  obtain ⟨t, ht, hi, _⟩ := poll_inv c d hr h
  exact answers_of_completes ⟨t, ht, hi⟩

theorem execRequestLed_inv {s : State} (mask : Byte) (on : Bool) (h : BlockInv s) :
    Answers BlockInv (execRequestLed mask on s) := by
  refine answers_whenReady.2 fun hr => answers_andThen.2 ?_
  obtain ⟨t, ht, hi, _⟩ := setLeds_inv (ledsAfter s.leds mask on) hr h
  exact answers_of_completes ⟨t, ht, answers_next.2 (inv_returnResult hi)⟩

theorem execEnqueue_inv {s : State} (bytes : List Byte) (h : BlockInv s) :
    Answers BlockInv (execEnqueue bytes s) := by
  refine answers_whenReady.2 fun hr => ?_
  cases bytes with
  | nil => exact answers_refused _
  | cons b bs =>
    obtain ⟨t, ht, hi, _⟩ := acceptCommand_inv b bs hr h
    exact answers_andThen.2 (answers_of_completes ⟨t, ht, answers_next.2 (inv_returnResult hi)⟩)

theorem execFrame_inv {s : State} (start : Level) (d : Byte) (p stop : Level) (h : BlockInv s) :
    Answers BlockInv (execFrame start d p stop s) := by
  refine answers_whenReady.2 fun hr => ?_
  obtain ⟨t, ht, hi, _⟩ := polls_inv (framePolls s.cfg start d p stop) hr.1 h
  exact answers_of_completes ⟨t, ht, hi⟩

/-! ### The transmit phases -/

theorem execTxSettle_inv {s : State} (c d : Level) (h : BlockInv s) :
    Answers BlockInv (execTxSettle c d s) := by
  refine answers_whenInitialised.2 fun _ => ?_
  split
  · exact answers_next.2 (inv_afterSettle h ‹_› _)
  · exact answers_refused _

theorem execTxWlow_inv {s : State} (c d : Level) (h : BlockInv s) :
    Answers BlockInv (execTxWlow c d s) := by
  refine answers_whenInitialised.2 fun _ => ?_
  split
  · split
    · exact answers_next.2 (inv_afterLow h ‹_›)
    · exact answers_next.2 h
  · exact answers_refused _

theorem execTxWhigh_inv {s : State} (c d : Level) (h : BlockInv s) :
    Answers BlockInv (execTxWhigh c d s) := by
  refine answers_whenInitialised.2 fun hi => ?_
  split
  · split
    · exact answers_next.2 (inv_afterHigh hi h ‹_›)
    · exact answers_next.2 h
  · exact answers_refused _

theorem execTxAck1_inv {s : State} (c d : Level) (h : BlockInv s) :
    Answers BlockInv (execTxAck1 c d s) := by
  refine answers_whenInitialised.2 fun _ => ?_
  split
  · split
    · exact answers_next.2 (inv_ackPhase h (.inl ‹_›) (.inr (.inl rfl)))
    · exact answers_next.2 h
  · exact answers_refused _

theorem execTxAck2_inv {s : State} (c d : Level) (h : BlockInv s) :
    Answers BlockInv (execTxAck2 c d s) := by
  refine answers_whenInitialised.2 fun _ => ?_
  split
  · split
    · exact answers_next.2 (inv_ackPhase h (.inr (.inl ‹_›)) (.inr (.inr rfl)))
    · exact answers_next.2 h
  · exact answers_refused _

theorem execTxAck3_inv {s : State} (c d : Level) (h : BlockInv s) :
    Answers BlockInv (execTxAck3 c d s) := by
  refine answers_whenInitialised.2 fun hi => ?_
  split
  · split
    · obtain ⟨_, _, _, hdrv, _⟩ := h.2 hi
      have hreleased : s.clkLo = false ∧ s.datLo = false := by
        simpa [drivers, ‹s.txPhase = .ack3›] using hdrv
      exact answers_next.2 (inv_txComplete h hreleased.1 hreleased.2)
    · exact answers_next.2 h
  · exact answers_refused _

/-! ### The step -/

/-- What a transmit poll selects is the row of the current phase. -/
theorem exec_fetch_txp_inv {s u : State} {c d : Level} {i : Instr}
    (hf : fetch u (.txp c d) = .ok i) (h : BlockInv s) : Answers BlockInv (exec i s) := by
  unfold fetch at hf
  dsimp only at hf
  split at hf <;> cases hf
  · exact execTxSettle_inv c d h
  · exact execTxWlow_inv c d h
  · exact execTxWhigh_inv c d h
  · exact execTxAck1_inv c d h
  · exact execTxAck2_inv c d h
  · exact execTxAck3_inv c d h

/-- Every row that a stimulus selects keeps the invariant. -/
theorem exec_fetch_inv {s u : State} {x : Stimulus} {i : Instr} (hf : fetch u x = .ok i)
    (h : BlockInv s) : Answers BlockInv (exec i s) := by
  cases x with
  | txp c d => exact exec_fetch_txp_inv hf h
  | init => cases hf; exact execInit_inv h
  | step c d => cases hf; exact execStep_inv c d h
  | led mask on => cases hf; exact execRequestLed_inv mask on h
  | enq bytes => cases hf; exact execEnqueue_inv bytes h
  | frame start d p stop => cases hf; exact execFrame_inv start d p stop h

/-- A step either keeps the state or runs, on the state without its stimulus, what that stimulus
selects. -/
theorem step_eq_next {s t : State} (h : step s = .next t) :
    (s.inputs = [] ∧ t = s) ∨
    ∃ x rest i, s.inputs = x :: rest ∧ fetch s x = .ok i ∧
      exec i { s with inputs := rest } = .next t := by
  cases hin : s.inputs with
  | nil => rw [step_of_inputs_nil hin] at h; cases h; exact .inl ⟨rfl, rfl⟩
  | cons x rest =>
    cases hf : fetch s x with
    | ok i => rw [step_of_fetch_ok hin hf] at h; exact .inr ⟨x, rest, i, rfl, hf, h⟩
    | error r => rw [step_of_fetch_error hin hf] at h; cases h

/-- Settles O43: the invariant does not speak of the stimuli to come, and every row that a stimulus
selects keeps it. -/
theorem everyStepKeepsTheInvariant : Obligations.EveryStepKeepsTheInvariant := by
  intro s t hs hstep
  rcases step_eq_next hstep with ⟨_, rfl⟩ | ⟨x, rest, i, _, hf, hexec⟩
  · exact hs
  · exact exec_fetch_inv (s := { s with inputs := rest }) hf hs t hexec

/-- Settles O44: the reset state is the state after reset under the default configuration. -/
theorem resetMeetsTheInvariant : Obligations.ResetMeetsTheInvariant :=
  ⟨inv_resetWith (by decide), fun _ hc => inv_resetWith hc⟩

/-- Settles O1: by the definition of the state after reset. -/
theorem resetHoldsTheResetValues : Obligations.ResetHoldsTheResetValues :=
  ⟨⟨defaultConfig, rfl⟩, fun _ => by and_intros <;> rfl⟩

end Sys2Proof.Machine
end

section
/-! PROOF. A busy block runs the current transmit phase's row and nothing else. -/

namespace Sys2Proof.Machine

variable {s : State}

/-! ### Every other row is refused -/

/-- Every row but INIT and the transmit rows is guarded by the block being ready. -/
theorem exec_eq_whenReady (s : State) {i : Instr} (hrow : isTransmitRow i = false)
    (hinit : i ≠ .init) : ∃ o, exec i s = whenReady s o := by
  cases i with
  | init => exact absurd rfl hinit
  | txSettle | txWlow | txWhigh | txAck1 | txAck2 | txAck3 | txComplete => cases hrow
  | _ => exact ⟨_, rfl⟩

theorem execInit_busy (h : Transmitting s) : execInit s = .refused .busy := if_pos h

theorem exec_busy {i : Instr} (h : Transmitting s) (hrow : isTransmitRow i = false) :
    exec i s = .refused .busy := by
  by_cases hinit : i = .init
  · subst hinit
    exact execInit_busy h
  · obtain ⟨o, ho⟩ := exec_eq_whenReady s hrow hinit
    rw [ho, whenReady_busy h]

/-! ### A transmit row runs in its own phase, and does run there -/

/-- A transmit row that answers is the one that a poll selects in this phase, or TX_COMPLETE in the
last one. -/
theorem exec_transmitRow {i : Instr} (hrow : isTransmitRow i = true) :
    Answers (fun _ => isRowOfPhase s i) (exec i s) := by
  cases i with
  | txSettle c d | txWlow c d | txWhigh c d | txAck1 c d | txAck2 c d | txAck3 c d =>
    refine answers_whenInitialised.2 fun _ => ?_
    split
    · next hp => exact fun _ _ => ⟨c, d, .inl (by simp only [fetch, hp])⟩
    · exact answers_refused _
  | txComplete =>
    refine answers_whenInitialised.2 fun _ => ?_
    split
    · next hlast => exact fun _ _ => ⟨false, false, .inr ⟨rfl, hlast⟩⟩
    · exact answers_refused _
  | _ => cases hrow

/-- Whatever the line levels are, a poll of a busy block selects a row, and that row answers: where
its condition is not met, with the state as it was. -/
theorem exec_currentPhase (h : Transmitting s) (c d : Level) :
    ∃ i, fetch s (.txp c d) = .ok i ∧ ∃ t, exec i s = .next t := by
  obtain ⟨hi, hbusy⟩ := h
  cases hp : s.txPhase with
  | idle => exact absurd hp hbusy
  | settle =>
    refine ⟨.txSettle c d, by simp only [fetch, hp], ?_⟩
    simp only [exec, execTxSettle, whenInitialised_of hi, hp, if_true]
    exact ⟨_, rfl⟩
  | wlow k =>
    refine ⟨.txWlow c d, by simp only [fetch, hp], ?_⟩
    simp only [exec, execTxWlow, whenInitialised_of hi, hp]
    split <;> exact ⟨_, rfl⟩
  | whigh k =>
    refine ⟨.txWhigh c d, by simp only [fetch, hp], ?_⟩
    simp only [exec, execTxWhigh, whenInitialised_of hi, hp]
    split <;> exact ⟨_, rfl⟩
  | ack1 =>
    refine ⟨.txAck1 c d, by simp only [fetch, hp], ?_⟩
    simp only [exec, execTxAck1, whenInitialised_of hi, hp, if_true]
    split <;> exact ⟨_, rfl⟩
  | ack2 =>
    refine ⟨.txAck2 c d, by simp only [fetch, hp], ?_⟩
    simp only [exec, execTxAck2, whenInitialised_of hi, hp, if_true]
    split <;> exact ⟨_, rfl⟩
  | ack3 =>
    refine ⟨.txAck3 c d, by simp only [fetch, hp], ?_⟩
    simp only [exec, execTxAck3, whenInitialised_of hi, hp, if_true]
    split <;> exact ⟨_, rfl⟩

/-! ### The statement -/

/-- Settles O5: a row that is no transmit row is refused, a transmit row answers in its own phase
only, and the row that a poll selects does answer. -/
theorem busyRunsOnlyTheCurrentPhase : Obligations.BusyRunsOnlyTheCurrentPhase := by
  intro s h
  refine ⟨fun i hrow => exec_busy h hrow, fun i t ht => ?_, fun c d => ?_⟩
  · cases hrow : isTransmitRow i with
    | true => exact exec_transmitRow hrow t ht
    | false => rw [exec_busy h hrow] at ht; cases ht
  · obtain ⟨i, hf, t, ht⟩ := exec_currentPhase h c d
    exact ⟨i, t, hf, ht⟩

end Sys2Proof.Machine
end

section
/-! PROOF. Who writes what: the rows that do not run the receiver leave its registers alone, no row
writes the configuration, and the LED state changes only together with its stored command. -/

namespace Sys2Proof.Machine

variable {s t : State}

/-! ### What the parts of the block leave alone -/

/-- A change of the LED state goes with the set-indicators command that carries it, stored at the
old tail (R212). -/
def LedsWithCommand (s t : State) : Prop :=
  t.leds ≠ s.leds →
    t.cqTail.toNat = s.cqTail.toNat + 2 ∧
    Stored s.cqTail.toNat [s.cfg.cmdSetLeds, t.leds.setWidth 8] s t

/-- The receiver's registers, the configuration and the LED state are as they were. -/
def Untouched (s t : State) : Prop := SameReceiver s t ∧ t.cfg = s.cfg ∧ t.leds = s.leds

/-- What a row that does not run the receiver can have done to them. -/
def OutsideReceiver (s t : State) : Prop :=
  SameReceiver s t ∧ t.cfg = s.cfg ∧ LedsWithCommand s t

/-- What every row but INIT and FRAME can have done to the configuration and the LED state: nothing
to the one, and to the other only what stores its command. -/
def CfgAndLedsRule (s t : State) : Prop := t.cfg = s.cfg ∧ LedsWithCommand s t

theorem ledsWithCommand_of_eq (h : t.leds = s.leds) : LedsWithCommand s t :=
  fun hne => absurd h hne

theorem Untouched.outside (h : Untouched s t) : OutsideReceiver s t :=
  ⟨h.1, h.2.1, ledsWithCommand_of_eq h.2.2⟩

/-! ### The queue and the Key Handler -/

theorem sendAt_untouched (i : Nat) (h : BitVec 4) (s : State) :
    Answers (Untouched s) (sendAt i h s) := by
  intro t ht
  obtain ⟨v, _, rfl⟩ := sendAt_eq_next.1 ht
  and_intros <;> rfl

theorem acceptCommand_untouched (bs : List Byte) (s : State) :
    Answers (Untouched s) (acceptCommand bs s) := by
  intro t ht
  rcases acceptCommand_eq_next.1 ht with ⟨_, rfl⟩ | ⟨_, _, ⟨_, rfl⟩ | ⟨_, v, _, rfl⟩⟩ <;>
    and_intros <;> rfl

theorem replyAck_untouched (s : State) : Answers (Untouched s) (replyAck s) := by
  intro t ht
  rcases replyAck_eq_next.1 ht with ⟨_, v, _, rfl⟩ | ⟨_, rfl⟩ <;> and_intros <;> rfl

theorem cqReply_untouched (v : Byte) (e : Bool) (s : State) :
    Answers (Untouched s) (cqReply v e s) := by
  intro t ht
  rcases cqReply_eq_next ht with rfl | ht | ht | rfl
  · and_intros <;> rfl
  · exact replyAck_untouched s t ht
  · exact sendAt_untouched _ _ s t ht
  · and_intros <;> rfl

/-- A command that is taken in is stored at the tail, and the tail is moved past it. -/
theorem acceptCommand_stored {bs : List Byte} (hf : fits s bs.length = true) :
    Answers (fun t => t.cqTail.toNat = s.cqTail.toNat + bs.length ∧
      Stored s.cqTail.toNat bs s t) (acceptCommand bs s) := by
  intro t ht
  rcases acceptCommand_eq_next.1 ht with ⟨hfull, _⟩ | ⟨_, hlt, ⟨_, rfl⟩ | ⟨_, v, _, rfl⟩⟩
  · rw [hf] at hfull; cases hfull
  · exact ⟨toNat_tail_add hlt, stored_of_buf rfl⟩
  · exact ⟨toNat_tail_add hlt, stored_of_buf rfl⟩

/-- R212: the one operation that writes the LED state stores its command in the same step. -/
theorem setLeds_outside (n : BitVec 3) (s : State) :
    Answers (OutsideReceiver s) (setLeds n s) := by
  intro t ht
  rcases setLeds_eq_next.1 ht with ⟨_, rfl⟩ | ⟨hf, ht⟩
  · exact Untouched.outside (by and_intros <;> rfl)
  · obtain ⟨hrx, hcfg, hleds⟩ := acceptCommand_untouched _ _ t ht
    obtain ⟨htail, hstored⟩ :=
      acceptCommand_stored (s := { s with leds := n }) (bs := ledCommand s.cfg n) hf t ht
    exact ⟨hrx, hcfg, fun _ => ⟨htail, by rw [hleds]; exact hstored⟩⟩

theorem returnResult_outside {r : OpResult} (h : OutsideReceiver s t) :
    OutsideReceiver s (returnResult r t) := by
  unfold returnResult
  split <;> exact h

theorem keyPressMapped_untouched (v : Byte) (s : State) : Untouched s (keyPressMapped v s) := by
  rcases keyPressMapped_cases v s with h | ⟨c, _, _, h⟩ <;> rw [h] <;> and_intros <;> rfl

theorem keyPressCaps_outside (s : State) : Answers (OutsideReceiver s) (keyPressCaps s) :=
  setLeds_outside (ledsAfter s.leds s.cfg.ledCaps !s.mods.caps)
    { s with mods := { s.mods with caps := !s.mods.caps } }

/-- A key event writes the Key Handler's registers only, or is a press of caps-lock or of a mapped
key. -/
theorem khDecoded_cases {v : Byte} {e : Bool} (h : khDecoded v e s = .next t) :
    (∃ m r, t = { s with mods := m, relPend := r }) ∨ keyPressCaps s = .next t ∨
    t = keyPressMapped v s := by
  rcases khDecoded_eq_next h with
    rfl | rfl | rfl | rfl | rfl | rfl | rfl | hcaps | ⟨_, rfl⟩
  iterate 7 exact .inl ⟨_, _, rfl⟩
  · exact .inr (.inl hcaps)
  · exact .inr (.inr rfl)

theorem khDecoded_outside (v : Byte) (e : Bool) (s : State) :
    Answers (OutsideReceiver s) (khDecoded v e s) := by
  intro t ht
  rcases khDecoded_cases ht with ⟨m, r, rfl⟩ | hcaps | rfl
  · exact Untouched.outside (by and_intros <;> rfl)
  · exact keyPressCaps_outside s t hcaps
  · exact (keyPressMapped_untouched v s).outside

theorem deliver_outside (v : Byte) (e : Bool) (s : State) :
    Answers (OutsideReceiver s) (deliver v e s) := by
  intro t ht
  rcases deliver_eq_next ht with ⟨_, ht⟩ | ⟨_, ht⟩
  · exact (cqReply_untouched v e s t ht).outside
  · exact khDecoded_outside v e s t ht

/-! ### The transmit phases -/

theorem afterHigh_untouched (k : Fin 10) (s : State) : Untouched s (afterHigh k s) := by
  unfold afterHigh
  split
  · and_intros <;> rfl
  · split <;> and_intros <;> rfl

/-- A transmit row writes the transmitter and the owner's results only. -/
theorem exec_transmitRow_untouched {i : Instr} (hrow : isTransmitRow i = true) (s : State) :
    Answers (Untouched s) (exec i s) := by
  cases i with
  | txSettle c d | txComplete =>
    refine answers_whenInitialised.2 fun _ => ?_
    split
    · exact answers_next.2 (by and_intros <;> rfl)
    · exact answers_refused _
  | txWlow c d | txAck1 c d | txAck2 c d | txAck3 c d =>
    refine answers_whenInitialised.2 fun _ => ?_
    split
    · split <;> exact answers_next.2 (by and_intros <;> rfl)
    · exact answers_refused _
  | txWhigh c d =>
    refine answers_whenInitialised.2 fun _ => ?_
    split
    · split
      · exact answers_next.2 (afterHigh_untouched _ s)
      · exact answers_next.2 (by and_intros <;> rfl)
    · exact answers_refused _
  | _ => cases hrow

/-! ### The rows that do not run the receiver -/

theorem exec_outside {i : Instr} (hrow : runsReceiver i = false) (s : State) :
    Answers (OutsideReceiver s) (exec i s) := by
  cases i with
  | init | step | frame | rxStart | rxData | rxParity | rxStop | observeBit => cases hrow
  | requestLed mask on =>
    exact (answers_andThen.2 ((setLeds_outside _ s).mono
      fun t h => answers_next.2 (returnResult_outside h))).ready
  | enqueue bytes =>
    refine Answers.ready ?_
    split
    · exact answers_refused _
    · exact answers_andThen.2 ((acceptCommand_untouched bytes s).mono
        fun t h => answers_next.2 (returnResult_outside h.outside))
  | cmdSetLeds caps num scroll => exact (setLeds_outside _ s).ready
  | cmdArbitrary bytes =>
    refine Answers.ready ?_
    split
    · exact answers_refused _
    · exact (acceptCommand_untouched bytes s).mono fun _ => Untouched.outside
  | deliver v e => exact (deliver_outside v e s).ready
  | cqReply v e =>
    exact ((cqReply_untouched v e s).mono fun _ => Untouched.outside).selected.ready
  | replyAck =>
    exact ((replyAck_untouched s).mono fun _ => Untouched.outside).selected.ready
  | replyNak =>
    exact ((sendAt_untouched _ _ s).mono fun _ => Untouched.outside).selected.ready
  | khDecoded v e => exact (khDecoded_outside v e s).selected.ready
  | keyPressCaps => exact (keyPressCaps_outside s).selected.ready
  | keyPressMapped v =>
    exact (answers_next.2 (keyPressMapped_untouched v s).outside).selected.ready
  | replyFrameError | replyOther | replyNakGuard | keyError | keyBreak | keyReleaseShiftL
  | keyReleaseShiftR | keyReleaseOther | keyPressShiftL | keyPressShiftR | keyPressHigh =>
    exact (answers_next.2 (Untouched.outside (by and_intros <;> rfl))).selected.ready
  | discard | send | txBegin =>
    exact (answers_next.2 (Untouched.outside (by and_intros <;> rfl))).ready
  | txSettle | txWlow | txWhigh | txAck1 | txAck2 | txAck3 | txComplete =>
    exact (exec_transmitRow_untouched rfl s).mono fun _ => Untouched.outside

/-! ### What a poll can do -/

/-- A start, data or parity bit writes the receiver's registers only. -/
theorem rxStart_of_registers {P : State → Prop} (b : Level)
    (h : ∀ x n a k, P { s with rxState := x, rxCount := n, rxAcc := a, rxErr := k }) :
    P (rxStart b s) := by
  rw [rxStart_eq]; exact h _ _ _ _

theorem answers_rxData {P : State → Prop} (b : Level)
    (h : ∀ x n a k, P { s with rxState := x, rxCount := n, rxAcc := a, rxErr := k }) :
    Answers P (rxData b s) := by
  unfold rxData
  split
  · exact answers_next.2 (h _ _ _ _)
  · exact answers_fault _

theorem rxParity_of_registers {P : State → Prop} (b : Level)
    (h : ∀ x n a k, P { s with rxState := x, rxCount := n, rxAcc := a, rxErr := k }) :
    P (rxParity b s) := by
  rw [rxParity_eq]; exact h _ _ _ _

/-- An observed bit writes the receiver's registers only, or is a stop bit. -/
theorem answers_observeBit {P : State → Prop} (b : Level)
    (h : ∀ x n a k, P { s with rxState := x, rxCount := n, rxAcc := a, rxErr := k })
    (hstop : s.rxState = .stopBit → Answers P (rxStop b s)) : Answers P (observeBit b s) := by
  unfold observeBit
  split
  · exact answers_next.2 (rxStart_of_registers b h)
  · exact answers_rxData b h
  · exact answers_next.2 (rxParity_of_registers b h)
  · exact hstop ‹_›

/-- A poll remembers the clock level, and observes a bit at a falling edge. -/
theorem answers_poll {P : State → Prop} {c d : Level} (h : P { s with prevClk := c })
    (hbit : Answers P (observeBit d { s with prevClk := c })) : Answers P (poll c d s) := by
  unfold poll
  split
  · exact hbit
  · exact answers_next.2 h

/-! ### The rows that run the receiver -/

/-- The end of a frame does what its delivery does. -/
theorem completeFrame_cfgAndLedsRule (s : State) :
    Answers (CfgAndLedsRule s) (completeFrame s) := by
  unfold completeFrame
  rw [emitFramingDiag_eq, answers_andThen]
  refine (deliver_outside s.rxAcc (hasError s) _).mono fun t h => answers_next.2 ?_
  obtain ⟨_, hcfg, hleds⟩ := h
  exact ⟨hcfg, hleds⟩

theorem rxStop_cfgAndLedsRule (b : Level) (s : State) :
    Answers (CfgAndLedsRule s) (rxStop b s) := by
  cases b
  · refine (completeFrame_cfgAndLedsRule (recordErr .stop s)).mono fun t h => ?_
    rw [recordErr_eq] at h
    exact h
  · exact completeFrame_cfgAndLedsRule s

/-- The receiver's registers have no part in what is kept. -/
theorem registers_cfgAndLedsRule (s : State) (x : RxState) (n : BitVec 4) (a : Byte) (k : RxErr) :
    CfgAndLedsRule s { s with rxState := x, rxCount := n, rxAcc := a, rxErr := k } :=
  ⟨rfl, ledsWithCommand_of_eq rfl⟩

theorem observeBit_cfgAndLedsRule (b : Level) (s : State) :
    Answers (CfgAndLedsRule s) (observeBit b s) :=
  answers_observeBit b (registers_cfgAndLedsRule s) fun _ => rxStop_cfgAndLedsRule b s

theorem poll_cfgAndLedsRule (c d : Level) (s : State) :
    Answers (CfgAndLedsRule s) (poll c d s) :=
  answers_poll ⟨rfl, ledsWithCommand_of_eq rfl⟩
    (observeBit_cfgAndLedsRule d { s with prevClk := c })

/-- Every row but INIT and FRAME. -/
theorem exec_cfgAndLedsRule {i : Instr} (hinit : i ≠ .init)
    (hframe : ∀ a d p b, i ≠ .frame a d p b) (s : State) :
    Answers (CfgAndLedsRule s) (exec i s) := by
  cases i with
  | init => exact absurd rfl hinit
  | frame a d p b => exact absurd rfl (hframe a d p b)
  | step c d => exact (poll_cfgAndLedsRule c d s).ready
  | observeBit b => exact (observeBit_cfgAndLedsRule b s).ready
  | rxStart b =>
    exact (answers_next.2 (rxStart_of_registers b (registers_cfgAndLedsRule s))).selected.ready
  | rxData b => exact (answers_rxData b (registers_cfgAndLedsRule s)).selected.ready
  | rxParity b =>
    exact (answers_next.2 (rxParity_of_registers b (registers_cfgAndLedsRule s))).selected.ready
  | rxStop b => exact (rxStop_cfgAndLedsRule b s).selected.ready
  | _ => exact (exec_outside rfl s).mono fun _ h => h.2

theorem polls_cfg (ps : List (Level × Level)) (s : State) :
    Answers (fun t => t.cfg = s.cfg) (polls ps s) := by
  induction ps generalizing s with
  | nil => exact answers_next.2 rfl
  | cons p ps ih =>
    unfold polls
    split
    · exact answers_andThen.2 ((poll_cfgAndLedsRule p.1 p.2 s).mono
        fun u hu => (ih u).mono fun _ ht => ht.trans hu.1)
    · exact answers_next.2 rfl

/-! ### The receiver before the stop bit -/

/-- The buffer, both cursors and `awaiting` are as they were. -/
def SameQueue (s t : State) : Prop :=
  t.buf = s.buf ∧ t.cqHead = s.cqHead ∧ t.cqTail = s.cqTail ∧ t.awaiting = s.awaiting

theorem registers_sameQueue (s : State) (x : RxState) (n : BitVec 4) (a : Byte) (k : RxErr) :
    SameQueue s { s with rxState := x, rxCount := n, rxAcc := a, rxErr := k } := by
  and_intros <;> rfl

theorem observeBit_sameQueue (b : Level) (h : s.rxState ≠ .stopBit) :
    Answers (SameQueue s) (observeBit b s) :=
  answers_observeBit b (registers_sameQueue s) fun hstop => absurd hstop h

theorem poll_sameQueue (c d : Level) (h : s.rxState ≠ .stopBit) :
    Answers (SameQueue s) (poll c d s) :=
  answers_poll (by and_intros <;> rfl) (observeBit_sameQueue (s := { s with prevClk := c }) d h)

/-! ### The statements -/

/-- Settles O47: INIT keeps the configuration, FRAME is a run of polls, and every other row keeps it
together with the LED state's rule. -/
theorem configurationIsNeverWritten : Obligations.ConfigurationIsNeverWritten := by
  intro i s t h
  cases i with
  | init => exact answers_execInit (P := fun t => t.cfg = s.cfg) rfl t h
  | frame a d p b => exact (polls_cfg _ s).ready t h
  | _ => refine (exec_cfgAndLedsRule ?_ ?_ s t h).1 <;> nofun

/-- Settles O48: every row outside the receiver is made of operations that leave its registers, and
the start, data and parity bits write those only. -/
theorem receiverAndQueueOwnTheirState : Obligations.ReceiverAndQueueOwnTheirState := by
  refine ⟨fun i s t hrow h => (exec_outside hrow s t h).1, fun s t b c hstop h => ?_⟩
  have hregs := registers_sameQueue s
  rcases h with h | h | h | h | h
  · exact (answers_next.2 (rxStart_of_registers b hregs)).selected.ready t h
  · exact (answers_rxData b hregs).selected.ready t h
  · exact (answers_next.2 (rxParity_of_registers b hregs)).selected.ready t h
  · exact (observeBit_sameQueue b hstop).ready t h
  · exact (poll_sameQueue c b hstop).ready t h

/-- Settles O49: only `setLeds` writes the LED state, and it stores the command. -/
theorem ledStateChangesWithItsCommand : Obligations.LedStateChangesWithItsCommand :=
  fun _ s t hinit hframe h hne => (exec_cfgAndLedsRule hinit hframe s t h).2 hne

end Sys2Proof.Machine
end

section
/-! PROOF. No row reads the output trace, clears it or removes an event: each operation does the
same with other events before the trace, and keeps them. -/

namespace Sys2Proof.Machine

variable {s : State} {o : List Event}

/-- The state with other events before its trace. -/
def withTrace (o : List Event) (s : State) : State := { s with out := o ++ s.out }

/-! ### Sequencing and conditions -/

theorem next_withTrace {t t' : State} (h : t' = withTrace o t) :
    (.next t' : Outcome) = mapNext (withTrace o) (.next t) := congrArg _ h

theorem andThen_withTrace {x x' : Outcome} {g : State → Outcome}
    (hx : x' = mapNext (withTrace o) x)
    (hg : ∀ t, g (withTrace o t) = mapNext (withTrace o) (g t)) :
    andThen x' g = mapNext (withTrace o) (andThen x g) := by
  subst hx
  cases x with
  | next t => exact hg t
  | fault r => rfl
  | refused r => rfl

/-- A choice is made alike where its condition does not speak of the trace. -/
theorem ite_withTrace {p : Prop} [Decidable p] {x x' y y' : Outcome}
    (hx : p → x' = mapNext (withTrace o) x) (hy : ¬p → y' = mapNext (withTrace o) y) :
    (if p then x' else y') = mapNext (withTrace o) (if p then x else y) := by
  split
  · exact hx ‹_›
  · exact hy ‹_›

/-- Likewise a choice between two states. -/
theorem iteState_withTrace {p : Prop} [Decidable p] {t t' u u' : State}
    (ht : p → t' = withTrace o t) (hu : ¬p → u' = withTrace o u) :
    (if p then t' else u') = withTrace o (if p then t else u) := by
  split
  · exact ht ‹_›
  · exact hu ‹_›

theorem whenReady_withTrace {x x' : Outcome} (h : x' = mapNext (withTrace o) x) :
    whenReady (withTrace o s) x' = mapNext (withTrace o) (whenReady s x) :=
  ite_withTrace (fun _ => ite_withTrace (fun _ => h) fun _ => rfl) fun _ => rfl

theorem whenInitialised_withTrace {x x' : Outcome} (h : x' = mapNext (withTrace o) x) :
    whenInitialised (withTrace o s) x' = mapNext (withTrace o) (whenInitialised s x) :=
  ite_withTrace (fun _ => h) fun _ => rfl

theorem whenSelected_withTrace {b : Bool} {x x' : Outcome} (h : x' = mapNext (withTrace o) x) :
    whenSelected b x' = mapNext (withTrace o) (whenSelected b x) :=
  ite_withTrace (fun _ => h) fun _ => rfl

/-! ### Updates of the state -/

/-- Events are appended behind the trace, so those before it stay. -/
theorem emit_withTrace (o : List Event) (ev : Event) (s : State) :
    emit ev (withTrace o s) = withTrace o (emit ev s) := by
  simp only [emit, withTrace, List.append_assoc]

theorem emitFramingDiag_withTrace (o : List Event) (s : State) :
    emitFramingDiag (withTrace o s) = withTrace o (emitFramingDiag s) := by
  simp only [emitFramingDiag_eq, withTrace, List.append_assoc]

theorem replyFrameError_withTrace (o : List Event) (s : State) :
    replyFrameError (withTrace o s) = withTrace o (replyFrameError s) :=
  congrArg discardQueue (emit_withTrace o _ s)

theorem replyOther_withTrace (o : List Event) (v : Byte) (s : State) :
    replyOther v (withTrace o s) = withTrace o (replyOther v s) :=
  congrArg discardQueue (emit_withTrace o _ s)

theorem keyPressMapped_withTrace (o : List Event) (v : Byte) (s : State) :
    keyPressMapped v (withTrace o s) = withTrace o (keyPressMapped v s) :=
  iteState_withTrace (fun _ => rfl) fun _ =>
    iteState_withTrace (fun _ => rfl) fun _ => emit_withTrace o _ s

theorem recordErr_withTrace (o : List Event) (k : RxErr) (s : State) :
    recordErr k (withTrace o s) = withTrace o (recordErr k s) := by
  simp only [recordErr_eq, withTrace]

theorem rxStart_withTrace (o : List Event) (b : Level) (s : State) :
    rxStart b (withTrace o s) = withTrace o (rxStart b s) := by
  simp only [rxStart_eq, withTrace]

theorem rxParity_withTrace (o : List Event) (b : Level) (s : State) :
    rxParity b (withTrace o s) = withTrace o (rxParity b s) := by
  simp only [rxParity_eq, withTrace]

theorem returnResult_withTrace (o : List Event) (r : OpResult) (s : State) :
    returnResult r (withTrace o s) = withTrace o (returnResult r s) :=
  iteState_withTrace (fun _ => rfl) fun _ => rfl

theorem afterHigh_withTrace (o : List Event) (k : Fin 10) (s : State) :
    afterHigh k (withTrace o s) = withTrace o (afterHigh k s) :=
  iteState_withTrace (fun _ => rfl) fun _ => iteState_withTrace (fun _ => rfl) fun _ => rfl

/-! ### The queue and the Key Handler -/

theorem sendAt_withTrace (o : List Event) (i : Nat) (h : BitVec 4) (s : State) :
    sendAt i h (withTrace o s) = mapNext (withTrace o) (sendAt i h s) := by
  have hread : bufRead (withTrace o s) i = bufRead s i := rfl
  unfold sendAt
  rw [hread]
  cases bufRead s i <;> rfl

theorem acceptCommand_withTrace (o : List Event) (bs : List Byte) (s : State) :
    acceptCommand bs (withTrace o s) = mapNext (withTrace o) (acceptCommand bs s) := by
  rw [acceptCommand_eq, acceptCommand_eq]
  exact ite_withTrace (fun _ => ite_withTrace (fun _ => ite_withTrace (fun _ => rfl)
    fun _ => sendAt_withTrace o _ _ (appended bs s)) fun _ => rfl) fun _ => rfl

theorem setLeds_withTrace (o : List Event) (n : BitVec 3) (s : State) :
    setLeds n (withTrace o s) = mapNext (withTrace o) (setLeds n s) :=
  ite_withTrace (fun _ => acceptCommand_withTrace o _ { s with leds := n }) fun _ => rfl

theorem replyAck_withTrace (o : List Event) (s : State) :
    replyAck (withTrace o s) = mapNext (withTrace o) (replyAck s) :=
  ite_withTrace (fun _ => sendAt_withTrace o _ _ s) fun _ => rfl

theorem cqReply_withTrace (o : List Event) (v : Byte) (e : Bool) (s : State) :
    cqReply v e (withTrace o s) = mapNext (withTrace o) (cqReply v e s) := by
  have hother := next_withTrace (replyOther_withTrace o v s)
  exact ite_withTrace (fun _ => next_withTrace (replyFrameError_withTrace o s)) fun _ =>
    ite_withTrace (fun _ => replyAck_withTrace o s) fun _ =>
      ite_withTrace (fun _ => ite_withTrace (fun _ => hother) fun _ => sendAt_withTrace o _ _ s)
        fun _ => hother

theorem keyPressCaps_withTrace (o : List Event) (s : State) :
    keyPressCaps (withTrace o s) = mapNext (withTrace o) (keyPressCaps s) :=
  setLeds_withTrace o _ { s with mods := { s.mods with caps := !s.mods.caps } }

theorem khDecoded_withTrace (o : List Event) (v : Byte) (e : Bool) (s : State) :
    khDecoded v e (withTrace o s) = mapNext (withTrace o) (khDecoded v e s) := by
  unfold khDecoded
  refine ite_withTrace (fun _ => rfl) fun _ => ite_withTrace (fun _ => rfl) fun _ =>
    ite_withTrace (fun _ => ?release) fun _ => ite_withTrace (fun _ => ?shift) fun _ =>
      ite_withTrace (fun _ => keyPressCaps_withTrace o s) fun _ =>
        ite_withTrace (fun _ => rfl) fun _ => next_withTrace (keyPressMapped_withTrace o v s)
  case release =>
    exact ite_withTrace (fun _ => ite_withTrace (fun _ => rfl) fun _ => rfl) fun _ => rfl
  case shift => exact ite_withTrace (fun _ => rfl) fun _ => rfl

theorem deliver_withTrace (o : List Event) (v : Byte) (e : Bool) (s : State) :
    deliver v e (withTrace o s) = mapNext (withTrace o) (deliver v e s) :=
  ite_withTrace (fun _ => cqReply_withTrace o v e s) fun _ => khDecoded_withTrace o v e s

/-! ### The receiver -/

theorem rxData_withTrace (o : List Event) (b : Level) (s : State) :
    rxData b (withTrace o s) = mapNext (withTrace o) (rxData b s) :=
  ite_withTrace (fun _ => rfl) fun _ => rfl

theorem completeFrame_withTrace (o : List Event) (s : State) :
    completeFrame (withTrace o s) = mapNext (withTrace o) (completeFrame s) := by
  unfold completeFrame
  rw [emitFramingDiag_withTrace]
  exact andThen_withTrace (deliver_withTrace o _ _ _) fun _ => rfl

theorem rxStop_withTrace (o : List Event) (b : Level) (s : State) :
    rxStop b (withTrace o s) = mapNext (withTrace o) (rxStop b s) := by
  cases b
  · exact (congrArg completeFrame (recordErr_withTrace o .stop s)).trans
      (completeFrame_withTrace o _)
  · exact completeFrame_withTrace o s

theorem observeBit_withTrace (o : List Event) (b : Level) (s : State) :
    observeBit b (withTrace o s) = mapNext (withTrace o) (observeBit b s) := by
  have hx : (withTrace o s).rxState = s.rxState := rfl
  unfold observeBit
  rw [hx]
  cases s.rxState with
  | idle => exact next_withTrace (rxStart_withTrace o b s)
  | data => exact rxData_withTrace o b s
  | parityBit => exact next_withTrace (rxParity_withTrace o b s)
  | stopBit => exact rxStop_withTrace o b s

theorem poll_withTrace (o : List Event) (c d : Level) (s : State) :
    poll c d (withTrace o s) = mapNext (withTrace o) (poll c d s) :=
  ite_withTrace (fun _ => observeBit_withTrace o d { s with prevClk := c }) fun _ => rfl

theorem polls_withTrace (o : List Event) (ps : List (Level × Level)) (s : State) :
    polls ps (withTrace o s) = mapNext (withTrace o) (polls ps s) := by
  induction ps generalizing s with
  | nil => rfl
  | cons p ps ih =>
    exact ite_withTrace (fun _ => andThen_withTrace (poll_withTrace o p.1 p.2 s) ih) fun _ => rfl

/-! ### The transmit rows -/

theorem exec_transmitRow_withTrace {i : Instr} (hrow : isTransmitRow i = true) (o : List Event)
    (s : State) : exec i (withTrace o s) = mapNext (withTrace o) (exec i s) := by
  have hx : (withTrace o s).txPhase = s.txPhase := rfl
  cases i with
  | txSettle c d | txComplete =>
    exact whenInitialised_withTrace (ite_withTrace (fun _ => rfl) fun _ => rfl)
  | txAck1 c d | txAck2 c d | txAck3 c d =>
    exact whenInitialised_withTrace
      (ite_withTrace (fun _ => ite_withTrace (fun _ => rfl) fun _ => rfl) fun _ => rfl)
  | txWlow c d =>
    refine whenInitialised_withTrace ?_
    rw [hx]
    cases s.txPhase with
    | wlow k => exact ite_withTrace (fun _ => rfl) fun _ => rfl
    | _ => rfl
  | txWhigh c d =>
    refine whenInitialised_withTrace ?_
    rw [hx]
    cases s.txPhase with
    | whigh k =>
      exact ite_withTrace (fun _ => next_withTrace (afterHigh_withTrace o k s)) fun _ => rfl
    | _ => rfl
  | _ => cases hrow

/-! ### The statement -/

theorem exec_withTrace (i : Instr) (o : List Event) (s : State) :
    exec i (withTrace o s) = mapNext (withTrace o) (exec i s) := by
  cases i with
  | init => exact ite_withTrace (fun _ => rfl) fun _ => rfl
  | step c d => exact whenReady_withTrace (poll_withTrace o c d s)
  | requestLed mask on =>
    exact whenReady_withTrace (andThen_withTrace (setLeds_withTrace o _ s)
      fun t => next_withTrace (returnResult_withTrace o _ t))
  | enqueue bytes =>
    exact whenReady_withTrace (ite_withTrace (fun _ => rfl) fun _ =>
      andThen_withTrace (acceptCommand_withTrace o bytes s)
        fun t => next_withTrace (returnResult_withTrace o _ t))
  | frame start d p stop => exact whenReady_withTrace (polls_withTrace o _ s)
  | rxStart b =>
    exact whenReady_withTrace (whenSelected_withTrace (next_withTrace (rxStart_withTrace o b s)))
  | rxData b => exact whenReady_withTrace (whenSelected_withTrace (rxData_withTrace o b s))
  | rxParity b =>
    exact whenReady_withTrace (whenSelected_withTrace (next_withTrace (rxParity_withTrace o b s)))
  | rxStop b => exact whenReady_withTrace (whenSelected_withTrace (rxStop_withTrace o b s))
  | observeBit b => exact whenReady_withTrace (observeBit_withTrace o b s)
  | deliver v e => exact whenReady_withTrace (deliver_withTrace o v e s)
  | cqReply v e => exact whenReady_withTrace (whenSelected_withTrace (cqReply_withTrace o v e s))
  | replyFrameError v =>
    exact whenReady_withTrace
      (whenSelected_withTrace (next_withTrace (replyFrameError_withTrace o s)))
  | replyAck => exact whenReady_withTrace (whenSelected_withTrace (replyAck_withTrace o s))
  | replyNak => exact whenReady_withTrace (whenSelected_withTrace (sendAt_withTrace o _ _ s))
  | replyOther v =>
    exact whenReady_withTrace (whenSelected_withTrace (next_withTrace (replyOther_withTrace o v s)))
  | replyNakGuard =>
    exact whenReady_withTrace (whenSelected_withTrace (next_withTrace (replyOther_withTrace o _ s)))
  | khDecoded v e =>
    exact whenReady_withTrace (whenSelected_withTrace (khDecoded_withTrace o v e s))
  | keyPressCaps => exact whenReady_withTrace (whenSelected_withTrace (keyPressCaps_withTrace o s))
  | keyPressMapped v =>
    exact whenReady_withTrace
      (whenSelected_withTrace (next_withTrace (keyPressMapped_withTrace o v s)))
  | keyError | keyBreak | keyReleaseShiftL | keyReleaseShiftR | keyReleaseOther | keyPressShiftL
  | keyPressShiftR | keyPressHigh =>
    exact whenReady_withTrace (whenSelected_withTrace rfl)
  | discard | send | txBegin => exact whenReady_withTrace rfl
  | txSettle | txWlow | txWhigh | txAck1 | txAck2 | txAck3 | txComplete =>
    exact exec_transmitRow_withTrace rfl o s
  | cmdSetLeds caps num scroll => exact whenReady_withTrace (setLeds_withTrace o _ s)
  | cmdArbitrary bytes =>
    exact whenReady_withTrace
      (ite_withTrace (fun _ => rfl) fun _ => acceptCommand_withTrace o bytes s)

/-- Settles O46: each operation of the model does the same with other events before the trace. -/
theorem traceIsNeverRead : Obligations.TraceIsNeverRead := fun i s o => exec_withTrace i o s

end Sys2Proof.Machine
end

section
/-! PROOF. A transmission that a step starts is of the byte just before the send cursor. -/

namespace Sys2Proof.Machine

variable {s t : State}

/-- A block that is busy is at the bus request for the byte before its cursor. -/
def SendsCursorByte (t : State) : Prop :=
  t.txPhase ≠ .idle →
    t.txPhase = .settle ∧ t.awaiting = true ∧ 1 ≤ t.cqHead.toNat ∧
    bufRead t (t.cqHead.toNat - 1) = some t.txByte

/-- What a send starts from: no transmission in progress, and a byte before the cursor where a reply
is awaited (R45). -/
def AtRest (s : State) : Prop :=
  s.txPhase = .idle ∧ (s.awaiting = true → 1 ≤ s.cqHead.toNat)

theorem atRest_of_inv (hr : Ready s) (h : BlockInv s) : AtRest s := by
  obtain ⟨_, ⟨_, _, _, hhead⟩, _⟩ := h.2 hr.1
  exact ⟨hr.2, hhead⟩

theorem sendsCursorByte_of_idle (h : t.txPhase = .idle) : SendsCursorByte t :=
  fun hbusy => absurd h hbusy

/-! ### Sends -/

/-- A send of the byte at an index, with the cursor put just past it. -/
theorem sendsCursorByte_send {i : Nat} {v : Byte} {h : BitVec 4} (hread : bufRead s i = some v)
    (hh : h.toNat = i + 1) : SendsCursorByte (send v { s with cqHead := h }) := by
  intro _
  refine ⟨rfl, rfl, ?_, ?_⟩
  · show 1 ≤ h.toNat
    omega
  · show bufRead s (h.toNat - 1) = some v
    rw [hh]; exact hread

/-- The cursor moves past every byte that can be read: none is at the last index its four bits
reach, since a byte that can be read is below the tail. -/
theorem toNat_add_one_of_read {c : BitVec 4} {v : Byte} (hread : bufRead s c.toNat = some v) :
    (c + 1).toNat = c.toNat + 1 := by
  unfold bufRead at hread
  split at hread
  · have := s.cqTail.isLt
    rw [BitVec.toNat_add]; simp; omega
  · cases hread

theorem acceptCommand_sendsCursorByte (bs : List Byte) (h : s.txPhase = .idle) :
    Answers SendsCursorByte (acceptCommand bs s) := by
  intro t ht
  rcases acceptCommand_eq_next.1 ht with ⟨_, rfl⟩ | ⟨_, _, ⟨_, rfl⟩ | ⟨_, v, hread, rfl⟩⟩
  · exact sendsCursorByte_of_idle h
  · exact sendsCursorByte_of_idle h
  · exact sendsCursorByte_send hread (toNat_add_one_of_read hread)

theorem setLeds_sendsCursorByte (n : BitVec 3) (h : s.txPhase = .idle) :
    Answers SendsCursorByte (setLeds n s) := by
  intro t ht
  rcases setLeds_eq_next.1 ht with ⟨_, rfl⟩ | ⟨_, ht⟩
  · exact sendsCursorByte_of_idle h
  · exact acceptCommand_sendsCursorByte (s := { s with leds := n }) _ h t ht

/-- R146, R147: an acknowledge sends the byte at the cursor and moves it; a negative one sends the
byte before it and leaves it. -/
theorem cqReply_sendsCursorByte (v : Byte) (e : Bool) (ha : s.awaiting = true) (h : AtRest s) :
    Answers SendsCursorByte (cqReply v e s) := by
  obtain ⟨hidle, hhead⟩ := h
  have hhead := hhead ha
  intro t ht
  rcases cqReply_eq_next ht with rfl | ht | ht | rfl
  · exact sendsCursorByte_of_idle hidle
  · rcases replyAck_eq_next.1 ht with ⟨_, v, hread, rfl⟩ | ⟨_, rfl⟩
    · exact sendsCursorByte_send hread (toNat_add_one_of_read hread)
    · exact sendsCursorByte_of_idle hidle
  · obtain ⟨v, hread, rfl⟩ := sendAt_eq_next.1 ht
    exact sendsCursorByte_send hread (by omega)
  · exact sendsCursorByte_of_idle hidle

theorem khDecoded_sendsCursorByte (v : Byte) (e : Bool) (h : s.txPhase = .idle) :
    Answers SendsCursorByte (khDecoded v e s) := by
  intro t ht
  rcases khDecoded_cases ht with ⟨m, r, rfl⟩ | hcaps | rfl
  · exact sendsCursorByte_of_idle h
  · exact setLeds_sendsCursorByte
      (s := { s with mods := { s.mods with caps := !s.mods.caps } }) _ h t hcaps
  · exact sendsCursorByte_of_idle ((keyPressMapped_txPhase v s).trans h)

/-! ### Polls -/

theorem deliver_sendsCursorByte (v : Byte) (e : Bool) (h : AtRest s) :
    Answers SendsCursorByte (deliver v e s) := by
  intro t ht
  rcases deliver_eq_next ht with ⟨ha, ht⟩ | ⟨_, ht⟩
  · exact cqReply_sendsCursorByte v e ha h t ht
  · exact khDecoded_sendsCursorByte v e h.1 t ht

theorem completeFrame_sendsCursorByte (h : AtRest s) :
    Answers SendsCursorByte (completeFrame s) := by
  unfold completeFrame
  rw [emitFramingDiag_eq, answers_andThen]
  have hd : AtRest { s with out := s.out ++ framingDiags s.rxErr } := h
  exact (deliver_sendsCursorByte s.rxAcc (hasError s) hd).mono fun t ht => answers_next.2 ht

theorem rxStop_sendsCursorByte (b : Level) (h : AtRest s) :
    Answers SendsCursorByte (rxStop b s) := by
  have hs : AtRest (if b then s else recordErr .stop s) := by
    rw [recordErr_eq]; split <;> exact h
  exact completeFrame_sendsCursorByte hs

theorem observeBit_sendsCursorByte (b : Level) (h : AtRest s) :
    Answers SendsCursorByte (observeBit b s) :=
  answers_observeBit b (fun _ _ _ _ => sendsCursorByte_of_idle h.1)
    fun _ => rxStop_sendsCursorByte b h

theorem poll_sendsCursorByte (c d : Level) (h : AtRest s) :
    Answers SendsCursorByte (poll c d s) :=
  answers_poll (sendsCursorByte_of_idle h.1)
    (observeBit_sendsCursorByte (s := { s with prevClk := c }) d h)

/-- R131: a run of polls ends where one of them starts a transmission, and the others start from a
block at rest. -/
theorem polls_sendsCursorByte (ps : List (Level × Level)) (hi : s.initialised = true)
    (hinv : BlockInv s) (h : SendsCursorByte s) : Answers SendsCursorByte (polls ps s) := by
  induction ps generalizing s with
  | nil => exact answers_next.2 h
  | cons p ps ih =>
    unfold polls
    split
    · next hidle =>
      obtain ⟨u, hu, huinv, _, _, _, hui⟩ := poll_inv p.1 p.2 ⟨hi, hidle⟩ hinv
      have hsend := poll_sendsCursorByte p.1 p.2 (atRest_of_inv ⟨hi, hidle⟩ hinv) u hu
      exact answers_andThen.2 (answers_of_completes ⟨u, hu, ih (hui.trans hi) huinv hsend⟩)
    · exact answers_next.2 h

/-! ### Steps -/

theorem sendsCursorByte_returnResult {r : OpResult} (h : SendsCursorByte t) :
    SendsCursorByte (returnResult r t) := by
  unfold returnResult
  split <;> exact h

/-- What a stimulus selects at a ready block. -/
theorem exec_fetch_sendsCursorByte {u : State} {x : Stimulus} {i : Instr}
    (hf : fetch u x = .ok i) (hu : u.txPhase = .idle) (hr : Ready s) (h : BlockInv s) :
    Answers SendsCursorByte (exec i s) := by
  cases x with
  | init =>
    cases hf
    exact answers_execInit (sendsCursorByte_of_idle rfl)
  | step c d =>
    cases hf
    exact (poll_sendsCursorByte c d (atRest_of_inv hr h)).ready
  | led mask on =>
    cases hf
    exact (answers_andThen.2 ((setLeds_sendsCursorByte _ hr.2).mono
      fun t ht => answers_next.2 (sendsCursorByte_returnResult ht))).ready
  | enq bytes =>
    cases hf
    refine Answers.ready ?_
    split
    · exact answers_refused _
    · exact answers_andThen.2 ((acceptCommand_sendsCursorByte bytes hr.2).mono
        fun t ht => answers_next.2 (sendsCursorByte_returnResult ht))
  | frame start d p stop =>
    cases hf
    exact (polls_sendsCursorByte _ hr.1 h (sendsCursorByte_of_idle hr.2)).ready
  | txp c d => simp [fetch, hu] at hf

/-- Settles O53: every send reads the byte that the cursor is then put just past, and a run of polls
ends at the first send. -/
theorem transmissionSendsTheCursorsByte : Obligations.TransmissionSendsTheCursorsByte := by
  intro s t hinv hr hstep
  rcases step_eq_next hstep with ⟨_, rfl⟩ | ⟨x, rest, i, _, hf, hexec⟩
  · exact sendsCursorByte_of_idle hr.2
  · exact exec_fetch_sendsCursorByte (s := { s with inputs := rest }) hf hr.2 hr hinv t hexec

end Sys2Proof.Machine
end

section
/-! PROOF. No step faults where the block's invariant holds: the transmit rows never touch what can
fault, and every other row that a stimulus selects completes at a ready block. -/

namespace Sys2Proof.Machine

variable {s t : State} {o : Outcome}

/-! ### Outcomes that are no fault -/

/-- The outcome is a next state or a refusal. -/
def NoFault (o : Outcome) : Prop := ∀ r, o ≠ .fault r

@[simp] theorem noFault_next (t : State) : NoFault (.next t) := by simp [NoFault]
@[simp] theorem noFault_refused (r : Refusal) : NoFault (.refused r) := by simp [NoFault]

theorem noFault_of_eq_next (h : o = .next t) : NoFault o := h ▸ noFault_next t

/-- The composite of an operation that completes faults only where its continuation does. -/
theorem noFault_andThen {f : State → Outcome} (h : o = .next t) (hf : NoFault (f t)) :
    NoFault (andThen o f) := by
  rw [h, andThen_next]; exact hf

theorem noFault_whenReady (h : Ready s → NoFault o) : NoFault (whenReady s o) := by
  intro r hr
  obtain ⟨hready, ho⟩ := whenReady_eq_fault.1 hr
  exact h hready r ho

theorem noFault_whenInitialised (h : NoFault o) : NoFault (whenInitialised s o) :=
  fun r hr => h r (whenInitialised_eq_fault.1 hr).2

/-! ### The transmit rows -/

theorem isTransmitRow_of_fetch_txp {c d : Level} {i : Instr} (h : fetch s (.txp c d) = .ok i) :
    isTransmitRow i = true := by
  unfold fetch at h
  dsimp only at h
  split at h <;> cases h <;> rfl

/-- A transmit row drives lines and changes the phase, in any state: the buffer's range and the bit
counter's are not its concern. -/
theorem exec_transmitRow_noFault {i : Instr} (hrow : isTransmitRow i = true) (s : State) :
    NoFault (exec i s) := by
  cases i with
  | txSettle c d | txComplete =>
    refine noFault_whenInitialised ?_
    split
    · exact noFault_next _
    · exact noFault_refused _
  | txWlow c d | txWhigh c d | txAck1 c d | txAck2 c d | txAck3 c d =>
    refine noFault_whenInitialised ?_
    split
    · split <;> exact noFault_next _
    · exact noFault_refused _
  | _ => cases hrow

/-! ### The owner's operations -/

theorem execInit_noFault (s : State) : NoFault (execInit s) := by
  unfold execInit
  split
  · exact noFault_refused _
  · exact noFault_next _

/-- R142: only a command of one byte or more reaches the buffer. -/
theorem execEnqueue_noFault (bytes : List Byte) (h : BlockInv s) :
    NoFault (execEnqueue bytes s) := by
  refine noFault_whenReady fun hready => ?_
  cases bytes with
  | nil => exact noFault_refused _
  | cons b bs =>
    obtain ⟨t, ht, _⟩ := acceptCommand_inv b bs hready h
    exact noFault_andThen ht (noFault_next _)

/-! ### The step -/

/-- No row that a stimulus selects faults where the invariant holds. -/
theorem exec_fetch_noFault {u : State} {x : Stimulus} {i : Instr} (hf : fetch u x = .ok i)
    (h : BlockInv s) : NoFault (exec i s) := by
  cases x with
  | txp c d => exact exec_transmitRow_noFault (isTransmitRow_of_fetch_txp hf) s
  | init => cases hf; exact execInit_noFault s
  | step c d =>
    cases hf
    refine noFault_whenReady fun hready => ?_
    obtain ⟨t, ht, _⟩ := poll_inv c d hready h
    exact noFault_of_eq_next ht
  | led mask on =>
    cases hf
    refine noFault_whenReady fun hready => ?_
    obtain ⟨t, ht, _⟩ := setLeds_inv (ledsAfter s.leds mask on) hready h
    exact noFault_andThen ht (noFault_next _)
  | enq bytes => cases hf; exact execEnqueue_noFault bytes h
  | frame start d p stop =>
    cases hf
    refine noFault_whenReady fun hready => ?_
    obtain ⟨t, ht, _⟩ := polls_inv (framePolls s.cfg start d p stop) hready.1 h
    exact noFault_of_eq_next ht

/-- Settles O45: a step keeps the state, is refused, or runs what its stimulus selects on a state
that meets the invariant too, since the invariant does not speak of the stimuli to come. -/
theorem noFaultUnderTheInvariant : Obligations.NoFaultUnderTheInvariant := by
  intro s r hinv
  cases hin : s.inputs with
  | nil => rw [step_of_inputs_nil hin]; exact noFault_next s r
  | cons x rest =>
    cases hf : fetch s x with
    | ok i =>
      rw [step_of_fetch_ok hin hf]
      exact exec_fetch_noFault (s := { s with inputs := rest }) hf hinv r
    | error e => rw [step_of_fetch_error hin hf]; exact noFault_refused e r

end Sys2Proof.Machine
end

section
/-! PROOF. The binary formats: reading bytes undoes writing them, each word is made of its fields,
and the class an event decodes to is the one whose encoding it is (30_encoding.md). -/

namespace Sys2Proof

/-! ### Words as bytes -/

/-- A wide word that passes the width check is a narrow one, widened. -/
theorem setWidth_eq_iff {n m : Nat} (h : n ≤ m) {x : BitVec m} {w : BitVec n} :
    x.toNat < 2 ^ n ∧ x.setWidth n = w ↔ x = w.setWidth m := by
  constructor
  · rintro ⟨hx, rfl⟩
    exact BitVec.eq_of_toNat_eq (by
      rw [BitVec.toNat_setWidth_of_le h, BitVec.toNat_setWidth, Nat.mod_eq_of_lt hx])
  · rintro rfl
    exact ⟨by rw [BitVec.toNat_setWidth_of_le h]; exact w.isLt, by simp [h]⟩

/-- Two bytes are those of a word exactly where they make it up, the low one below. -/
theorem wordBytes_eq_iff {n : Nat} {w : BitVec n} {lo hi : Byte} :
    wordBytes w = [lo, hi] ↔ hi ++ lo = w.setWidth 16 := by
  have hw : wordBytes w = wordBytes (w.setWidth 16) := by
    simp [wordBytes, BitVec.extractLsb'_setWidth_of_le]
  rw [hw]
  constructor
  · intro h
    simp only [wordBytes, List.cons.injEq, and_true] at h
    rw [← h.1, ← h.2]
    exact BitVec.extractLsb'_append_extractLsb'
  · intro h
    rw [← h, wordBytes, BitVec.extractLsb'_append_eq_left, BitVec.extractLsb'_append_eq_right]

theorem takeByte_eq_ok {n : Nat} (hn : n ≤ 8) {bs rest : List Byte} {w : BitVec n} :
    takeByte n bs = .ok (w, rest) ↔ bs = w.setWidth 8 :: rest := by
  cases bs with
  | nil => simp [takeByte]
  | cons b bs =>
    rw [takeByte, List.cons.injEq, ← setWidth_eq_iff hn]
    split <;> simp [*]

theorem takeWord_eq_ok {n : Nat} (hn : n ≤ 16) {bs rest : List Byte} {w : BitVec n} :
    takeWord n bs = .ok (w, rest) ↔ bs = wordBytes w ++ rest := by
  match bs with
  | [] => simp [takeWord, wordBytes]
  | [_] => simp [takeWord, wordBytes]
  | lo :: hi :: bs =>
    have hbytes : lo :: hi :: bs = wordBytes w ++ rest ↔ wordBytes w = [lo, hi] ∧ bs = rest := by
      simp only [wordBytes, List.cons_append, List.nil_append, List.cons.injEq, and_true,
        and_assoc, eq_comm]
    rw [hbytes, wordBytes_eq_iff, ← setWidth_eq_iff hn, takeWord]
    split <;> simp [*]

/-- A format of one byte decodes exactly the bytes that begin with a word's. -/
theorem byteFormat_eq_ok {n : Nat} (hn : n ≤ 8) (g : BitVec n → Instr) {bs rest : List Byte}
    {i : Instr} :
    (takeByte n bs).map (fun p => (g p.1, p.2)) = .ok (i, rest) ↔
      ∃ w, bs = w.setWidth 8 :: rest ∧ g w = i := by
  simp only [← takeByte_eq_ok hn]
  cases takeByte n bs <;> simp [Except.map, Prod.ext_iff, and_comm]

/-- A format of two bytes decodes exactly the bytes that begin with a word's. -/
theorem wordFormat_eq_ok {n : Nat} (hn : n ≤ 16) (g : BitVec n → Instr) {bs rest : List Byte}
    {i : Instr} :
    (takeWord n bs).map (fun p => (g p.1, p.2)) = .ok (i, rest) ↔
      ∃ w, bs = wordBytes w ++ rest ∧ g w = i := by
  simp only [← takeWord_eq_ok hn]
  cases takeWord n bs <;> simp [Except.map, Prod.ext_iff, and_comm]

/-! ### Words and their fields -/

/-- A bit as a field of width 1. -/
theorem ofBool_getLsbD {n : Nat} (w : BitVec n) (i : Nat) :
    BitVec.ofBool (w.getLsbD i) = w.extractLsb' i 1 := by
  ext j hj
  simp [show j = 0 by omega]

/-- Adjacent fields of a word make up one field. -/
theorem append_fields {n i j k l : Nat} {w : BitVec n} (h : j = i + k) :
    w.extractLsb' j l ++ w.extractLsb' i k = w.extractLsb' i (l + k) :=
  BitVec.extractLsb'_append_extractLsb'_eq_extractLsb' h

theorem frameWord_fields (w : BitVec 11) :
    frameWord (w.getLsbD 0) (w.extractLsb' 1 8) (w.getLsbD 9) (w.getLsbD 10) = w := by
  simp only [frameWord, ofBool_getLsbD]
  rw [append_fields (by rfl), append_fields (by rfl), append_fields (by rfl)]
  exact BitVec.extractLsb'_eq_self

theorem rxWord_fields (w : BitVec 3) :
    rxWord (w.getLsbD 2) (w.getLsbD 1) (w.getLsbD 0) = w := by
  simp only [rxWord, ofBool_getLsbD]
  rw [append_fields (by rfl), append_fields (by rfl)]
  exact BitVec.extractLsb'_eq_self

theorem replyWord_fields (w : BitVec 9) : replyWord (w.getLsbD 8) (lowByte w) = w := by
  simp only [replyWord, lowByte, ofBool_getLsbD]
  rw [append_fields (by rfl)]
  exact BitVec.extractLsb'_eq_self

theorem keyWord_fields (w : BitVec 10) :
    keyWord (w.getLsbD 9) (w.getLsbD 8) (lowByte w) = w := by
  simp only [keyWord, lowByte, ofBool_getLsbD]
  rw [append_fields (by rfl), append_fields (by rfl)]
  exact BitVec.extractLsb'_eq_self

theorem linesWord_fields (w : BitVec 2) : linesWord (w.getLsbD 1) (w.getLsbD 0) = w := by
  simp only [linesWord, ofBool_getLsbD]
  rw [append_fields (by rfl)]
  exact BitVec.extractLsb'_eq_self

/-! ### Words decode to the fields they are made of -/

/-- The bit just above a field is the one put there. -/
theorem getLsbD_ofBool_append {n : Nat} (b : Bool) (v : BitVec n) :
    (BitVec.ofBool b ++ v).getLsbD n = b := by
  rw [BitVec.getLsbD_append]
  simp

/-- The bits above a field are those of what stands above it. -/
theorem getLsbD_append_add {n m : Nat} (x : BitVec n) (v : BitVec m) (i : Nat) :
    (x ++ v).getLsbD (m + i) = x.getLsbD i := by
  simp [BitVec.getLsbD_append]

theorem lowByte_append {n : Nat} (x : BitVec n) (v : Byte) : lowByte (x ++ v) = v :=
  BitVec.extractLsb'_append_eq_right

/-- A single bit at the bottom. -/
theorem getLsbD_append_ofBool {n : Nat} (x : BitVec n) (b : Bool) :
    (x ++ BitVec.ofBool b).getLsbD 0 = b := by
  rw [BitVec.getLsbD_append]
  simp

theorem decodeFrame_frameWord (start : Level) (d : Byte) (p stop : Level) :
    decodeFrame (frameWord start d p stop) = .frame start d p stop := by
  have hstart : (frameWord start d p stop).getLsbD 0 = start := getLsbD_append_ofBool _ start
  have hd : (frameWord start d p stop).extractLsb' 1 8 = d := by
    rw [frameWord, BitVec.extractLsb'_append_eq_of_le (Nat.le_refl 1)]
    exact BitVec.extractLsb'_append_eq_right
  have hp : (frameWord start d p stop).getLsbD 9 = p :=
    ((getLsbD_append_add _ _ 8).trans (getLsbD_append_add _ _ 0)).trans
      (getLsbD_append_ofBool _ p)
  have hstop : (frameWord start d p stop).getLsbD 10 = stop :=
    ((getLsbD_append_add _ _ 9).trans (getLsbD_append_add _ _ 1)).trans
      (getLsbD_ofBool_append stop _)
  rw [decodeFrame, hstart, hd, hp, hstop]

theorem decodeReply_replyWord (c : Config) (noneSent e : Bool) (v : Byte) :
    decodeReply c noneSent (replyWord e v) = classifyReply c noneSent v e := by
  have he : (replyWord e v).getLsbD 8 = e := getLsbD_ofBool_append e v
  have hv : lowByte (replyWord e v) = v := lowByte_append _ v
  rw [decodeReply, he, hv]

theorem decodeKey_keyWord (c : Config) (r e : Bool) (v : Byte) :
    decodeKey c (keyWord r e v) = classifyKey c r v e := by
  have hr : (keyWord r e v).getLsbD 9 = r :=
    (getLsbD_append_add _ v 1).trans (getLsbD_ofBool_append r _)
  have he : (keyWord r e v).getLsbD 8 = e :=
    (getLsbD_append_add _ v 0).trans (getLsbD_append_ofBool _ e)
  have hv : lowByte (keyWord r e v) = v := lowByte_append _ v
  rw [decodeKey, hr, he, hv]

/-- The two levels of a transmit-phase word, whatever row they are handed to. -/
theorem linesWord_levels (clk dat : Level) :
    (linesWord clk dat).getLsbD 1 = clk ∧ (linesWord clk dat).getLsbD 0 = dat := by
  revert clk dat; decide

/-! ### What a valid configuration says of its parameters (R12) -/

/-- The reply codes differ. -/
theorem replies_of_valid {c : Config} (h : c.valid = true) : c.replyNak ≠ c.replyAck := by
  simp only [Config.valid, Bool.and_eq_true, bne_iff_ne] at h
  tauto

/-- The key codes differ from one another, and those of the modifiers are in the map's range. -/
theorem codes_of_valid {c : Config} (h : c.valid = true) :
    (c.scLshift ≠ c.scBreak ∧ c.scRshift ≠ c.scBreak ∧ c.scCaps ≠ c.scBreak) ∧
    (c.scRshift ≠ c.scLshift ∧ c.scCaps ≠ c.scLshift ∧ c.scCaps ≠ c.scRshift) ∧
    c.scLshift.toNat ≤ c.mapLimit ∧ c.scRshift.toNat ≤ c.mapLimit ∧
    c.scCaps.toNat ≤ c.mapLimit := by
  simp only [Config.valid, Bool.and_eq_true, bne_iff_ne, decide_eq_true_eq] at h
  tauto

/-- The LED masks are three different single bits within bits 2:0. -/
theorem masks_of_valid {c : Config} (h : c.valid = true) :
    (Config.ledMaskOk c.ledScroll = true ∧ Config.ledMaskOk c.ledNum = true ∧
      Config.ledMaskOk c.ledCaps = true) ∧
    c.ledScroll ≠ c.ledNum ∧ c.ledScroll ≠ c.ledCaps ∧ c.ledNum ≠ c.ledCaps := by
  simp only [Config.valid, Bool.and_eq_true, bne_iff_ne] at h
  tauto

theorem sized_of_valid {c : Config} (h : c.valid = true) : c.sized = true := by
  simp only [Config.valid, Bool.and_eq_true] at h
  tauto

/-! ### The indicator byte -/

/-- A LED mask is a bit, and none of the others. -/
theorem ledMask_and {m k : Byte} (hm : Config.ledMaskOk m = true) (hk : Config.ledMaskOk k = true)
    (hmk : m ≠ k) : m &&& k = 0 := by
  simp only [Config.ledMaskOk, Bool.or_eq_true, beq_iff_eq, or_assoc] at hm hk
  rcases hm with rfl | rfl | rfl <;> rcases hk with rfl | rfl | rfl <;>
    revert hmk <;> decide

theorem ledMask_ne_zero {m : Byte} (hm : Config.ledMaskOk m = true) : m ≠ 0 := by
  rintro rfl
  exact absurd hm (by decide)

/-- A LED mask has no bit above the three of the LED state. -/
theorem ledMask_setWidth {m : Byte} (hm : Config.ledMaskOk m = true) :
    (m.setWidth 3).setWidth 8 = m := by
  simp only [Config.ledMaskOk, Bool.or_eq_true, beq_iff_eq, or_assoc] at hm
  rcases hm with rfl | rfl | rfl <;> rfl

/-- A mask that is listed or not: what a mask apart from it sees, and what it sees itself. -/
theorem ite_and_of_disjoint {m k : Byte} (b : Bool) (h : m &&& k = 0) :
    (if b = true then m else 0) &&& k = 0 := by
  cases b <;> simp [h]

theorem ite_and_self (b : Bool) (m : Byte) :
    (if b = true then m else 0) &&& m = if b = true then m else 0 := by
  cases b <;> simp

theorem ite_ne_zero {m : Byte} (b : Bool) (h : m ≠ 0) :
    ((if b = true then m else 0) != 0) = b := by
  cases b
  · rfl
  · exact bne_iff_ne.2 h

/-- Each mask finds its own bit in the indicator byte. -/
theorem ledByte_bits {c : Config} (hc : c.valid = true) (caps num scroll : Bool) :
    (ledByte c caps num scroll &&& c.ledCaps != 0) = caps ∧
    (ledByte c caps num scroll &&& c.ledNum != 0) = num ∧
    (ledByte c caps num scroll &&& c.ledScroll != 0) = scroll := by
  obtain ⟨⟨hs, hn, hk⟩, hsn, hsk, hnk⟩ := masks_of_valid hc
  simp only [ledByte, BitVec.and_or_distrib_right, ite_and_self,
    ite_and_of_disjoint _ (ledMask_and hs hn hsn), ite_and_of_disjoint _ (ledMask_and hn hs hsn.symm),
    ite_and_of_disjoint _ (ledMask_and hs hk hsk), ite_and_of_disjoint _ (ledMask_and hk hs hsk.symm),
    ite_and_of_disjoint _ (ledMask_and hn hk hnk), ite_and_of_disjoint _ (ledMask_and hk hn hnk.symm)]
  simp only [BitVec.ofNat_eq_ofNat, BitVec.zero_or, BitVec.or_zero]
  exact ⟨ite_ne_zero caps (ledMask_ne_zero hk), ite_ne_zero num (ledMask_ne_zero hn),
    ite_ne_zero scroll (ledMask_ne_zero hs)⟩

/-- The indicator byte is the LED state it stands for, widened (R104). -/
theorem ledByte_setWidth {c : Config} (hc : c.valid = true) (caps num scroll : Bool) :
    ((ledByte c caps num scroll).setWidth 3).setWidth 8 = ledByte c caps num scroll := by
  obtain ⟨⟨hs, hn, hk⟩, _⟩ := masks_of_valid hc
  have hite : ∀ (b : Bool) {m : Byte}, Config.ledMaskOk m = true →
      ((if b = true then m else 0).setWidth 3).setWidth 8 = if b = true then m else 0 := by
    rintro (_ | _) m hm
    · rfl
    · exact ledMask_setWidth hm
  simp only [ledByte, BitVec.setWidth_or, hite _ hs, hite _ hn, hite _ hk]

theorem decodeSetLeds_ledByte {c : Config} (hc : c.valid = true) (caps num scroll : Bool) :
    decodeSetLeds c c.cmdSetLeds (ledByte c caps num scroll) =
      .ok (.cmdSetLeds caps num scroll) := by
  obtain ⟨hcaps, hnum, hscroll⟩ := ledByte_bits hc caps num scroll
  rw [decodeSetLeds, if_neg (not_not_intro rfl)]
  simp only [hcaps, hnum, hscroll, if_true]

/-! ### What each format decodes its own words to -/

theorem decode_frameBytes (c : Config) (start : Level) (d : Byte) (p stop : Level) :
    decode c .wireFrame (wordBytes (frameWord start d p stop)) =
      .ok (.frame start d p stop, []) :=
  (wordFormat_eq_ok (by decide) decodeFrame).2 ⟨_, rfl, decodeFrame_frameWord start d p stop⟩

theorem decode_rxBytes (c : Config) (s1 s0 : Bool) (b : Level) :
    decode c .rxObserve [(rxWord s1 s0 b).setWidth 8] = .ok (decodeRx (rxWord s1 s0 b), []) :=
  (byteFormat_eq_ok (by decide) decodeRx).2 ⟨_, rfl, rfl⟩

theorem decode_replyBytes (c : Config) (e : Bool) (v : Byte) :
    decode c .replyEvent (wordBytes (replyWord e v)) = .ok (classifyReply c false v e, []) :=
  (wordFormat_eq_ok (by decide) (decodeReply c false)).2 ⟨_, rfl, decodeReply_replyWord c false e v⟩

theorem decode_replyBytes_noneSent (c : Config) (e : Bool) (v : Byte) :
    decode c .replyEventNoneSent (wordBytes (replyWord e v)) =
      .ok (classifyReply c true v e, []) :=
  (wordFormat_eq_ok (by decide) (decodeReply c true)).2 ⟨_, rfl, decodeReply_replyWord c true e v⟩

theorem decode_keyBytes (c : Config) (r e : Bool) (v : Byte) :
    decode c .keyEvent (wordBytes (keyWord r e v)) = .ok (classifyKey c r v e, []) :=
  (wordFormat_eq_ok (by decide) (decodeKey c)).2 ⟨_, rfl, decodeKey_keyWord c r e v⟩

theorem decodeLines_linesWord (row : Level → Level → Instr) (clk dat : Level) :
    decodeLines row [(linesWord clk dat).setWidth 8] = .ok (row clk dat, []) := by
  obtain ⟨hclk, hdat⟩ := linesWord_levels clk dat
  exact (byteFormat_eq_ok (by decide) fun w => row (w.getLsbD 1) (w.getLsbD 0)).2
    ⟨_, rfl, by rw [hclk, hdat]⟩

/-- Settles O54: a word decodes to the fields it is made of, and the fields of a well-formed row to
that row's class, since the codes of a valid configuration are told apart. -/
theorem decodeInvertsEncode : Obligations.DecodeInvertsEncode := by
  intro c i f bs hc hwf hf hb
  obtain ⟨⟨hlb, hrb, hcb⟩, ⟨hrl, hcl, hcr⟩, hlm, hrm, hcm⟩ := codes_of_valid hc
  cases i with
  | init | step | requestLed | enqueue | observeBit | deliver | cqReply | khDecoded | discard
  | send | txBegin | txComplete => cases hf
  | frame start d p stop => cases hf; cases hb; exact decode_frameBytes c start d p stop
  | rxStart b => cases hf; cases hb; cases b <;> exact decode_rxBytes c false false _
  | rxData b => cases hf; cases hb; cases b <;> exact decode_rxBytes c false true _
  | rxParity b => cases hf; cases hb; cases b <;> exact decode_rxBytes c true false _
  | rxStop b => cases hf; cases hb; cases b <;> exact decode_rxBytes c true true _
  | replyFrameError v => cases hf; cases hb; exact decode_replyBytes c true v
  | replyAck =>
    cases hf; cases hb
    rw [decode_replyBytes]
    simp [classifyReply]
  | replyNak =>
    cases hf; cases hb
    rw [decode_replyBytes]
    simp [classifyReply, replies_of_valid hc]
  | replyNakGuard =>
    cases hf; cases hb
    rw [decode_replyBytes_noneSent]
    simp [classifyReply, replies_of_valid hc]
  | replyOther v =>
    cases hf; cases hb
    simp only [Instr.wf, Bool.and_eq_true, bne_iff_ne] at hwf
    rw [decode_replyBytes]
    simp [classifyReply, hwf]
  | keyError r v => cases hf; cases hb; exact decode_keyBytes c r true v
  | keyBreak r =>
    cases hf; cases hb
    rw [decode_keyBytes]
    simp [classifyKey]
  | keyReleaseShiftL =>
    cases hf; cases hb
    rw [decode_keyBytes]
    simp [classifyKey, hlb]
  | keyReleaseShiftR =>
    cases hf; cases hb
    rw [decode_keyBytes]
    simp [classifyKey, hrb, hrl]
  | keyReleaseOther v =>
    cases hf; cases hb
    simp only [Instr.wf, Bool.and_eq_true, bne_iff_ne] at hwf
    rw [decode_keyBytes]
    simp [classifyKey, hwf]
  | keyPressShiftL =>
    cases hf; cases hb
    rw [decode_keyBytes]
    simp [classifyKey, hlb]
  | keyPressShiftR =>
    cases hf; cases hb
    rw [decode_keyBytes]
    simp [classifyKey, hrb, hrl]
  | keyPressCaps =>
    cases hf; cases hb
    rw [decode_keyBytes]
    simp [classifyKey, hcb, hcl, hcr]
  | keyPressHigh v =>
    cases hf; cases hb
    simp only [Instr.wf, Bool.and_eq_true, bne_iff_ne, decide_eq_true_eq] at hwf
    obtain ⟨hvb, hv⟩ := hwf
    have hvl : v ≠ c.scLshift := by rintro rfl; omega
    have hvr : v ≠ c.scRshift := by rintro rfl; omega
    have hvc : v ≠ c.scCaps := by rintro rfl; omega
    rw [decode_keyBytes]
    simp [classifyKey, hvb, hvl, hvr, hvc, hv]
  | keyPressMapped v =>
    cases hf; cases hb
    simp only [Instr.wf, Bool.and_eq_true, bne_iff_ne, decide_eq_true_eq] at hwf
    rw [decode_keyBytes]
    simp [classifyKey, hwf]
  | txSettle clk dat | txWlow clk dat | txWhigh clk dat | txAck1 clk dat | txAck2 clk dat
  | txAck3 clk dat => cases hf; cases hb; exact decodeLines_linesWord _ clk dat
  | cmdSetLeds caps num scroll =>
    cases hf; cases hb
    rw [decode, decodeSetLeds_ledByte hc]
    rfl
  | cmdArbitrary bytes =>
    cases hf; cases hb
    simp only [Instr.wf, Bool.and_eq_true, Bool.not_eq_true', decide_eq_true_eq] at hwf
    simp [decode, hwf, Nat.not_lt.2 hwf.2]

/-! ### What decodes is well-formed and encodes back -/

/-- The row is well-formed and these are its bytes. -/
def Encodes (c : Config) (i : Instr) (bs : List Byte) : Prop :=
  i.wf c = true ∧ encode c i = some bs

theorem decodeFrame_encodes (c : Config) (w : BitVec 11) :
    Encodes c (decodeFrame w) (wordBytes w) :=
  ⟨rfl, by rw [decodeFrame, encode, frameWord_fields]⟩

theorem decodeRx_encodes (c : Config) (w : BitVec 3) :
    Encodes c (decodeRx w) [w.setWidth 8] := by
  have hw := rxWord_fields w
  unfold decodeRx
  generalize w.getLsbD 0 = b at *
  split
  all_goals
    next h2 h1 =>
    rw [h2, h1] at hw
    exact ⟨rfl, by rw [encode, hw]⟩

/-- A reply's class is well-formed whatever the byte, and its encoding holds the byte. -/
theorem classifyReply_encodes (c : Config) (noneSent : Bool) (v : Byte) (e : Bool) :
    Encodes c (classifyReply c noneSent v e) (wordBytes (replyWord e v)) := by
  unfold classifyReply
  split
  · subst_vars; exact ⟨rfl, rfl⟩
  have he : e = false := by simpa using ‹¬e = true›
  subst he
  split
  · subst_vars; exact ⟨rfl, rfl⟩
  split
  · subst_vars; split <;> exact ⟨rfl, rfl⟩
  · exact ⟨by simp [Instr.wf, *], rfl⟩

theorem decodeReply_encodes (c : Config) (noneSent : Bool) (w : BitVec 9) :
    Encodes c (decodeReply c noneSent w) (wordBytes w) := by
  have h := classifyReply_encodes c noneSent (lowByte w) (w.getLsbD 8)
  rwa [replyWord_fields] at h

/-- A key event's class is well-formed whatever the byte, and its encoding holds the byte. -/
theorem classifyKey_encodes (c : Config) (r : Bool) (v : Byte) (e : Bool) :
    Encodes c (classifyKey c r v e) (wordBytes (keyWord r e v)) := by
  unfold classifyKey
  split
  · subst_vars; exact ⟨rfl, rfl⟩
  have he : e = false := by simpa using ‹¬e = true›
  subst he
  split
  · subst_vars; exact ⟨rfl, rfl⟩
  cases r
  · rw [if_neg (by decide)]
    repeat' (split)
    iterate 3 (subst_vars; exact ⟨rfl, rfl⟩)
    · exact ⟨by simp [Instr.wf, *], rfl⟩
    · exact ⟨by simp [Instr.wf, *]; omega, rfl⟩
  · rw [if_pos rfl]
    repeat' (split)
    iterate 2 (subst_vars; exact ⟨rfl, rfl⟩)
    · exact ⟨by simp [Instr.wf, *], rfl⟩

theorem decodeKey_encodes (c : Config) (w : BitVec 10) :
    Encodes c (decodeKey c w) (wordBytes w) := by
  have h := classifyKey_encodes c (w.getLsbD 9) (lowByte w) (w.getLsbD 8)
  rwa [keyWord_fields] at h

/-- A set-indicators command is accepted where its two bytes are the opcode and an indicator byte. -/
theorem decodeSetLeds_encodes {c : Config} {op m : Byte} {i : Instr}
    (h : decodeSetLeds c op m = .ok i) : Encodes c i [op, m] := by
  unfold decodeSetLeds at h
  split at h
  · cases h
  · have hop : op = c.cmdSetLeds := not_not.1 ‹_›
    dsimp only at h
    split at h <;> cases h
    exact ⟨rfl, by rw [encode, hop, ‹ledByte _ _ _ _ = m›]⟩

/-- A format of one byte whose words are those of its rows. -/
theorem byteFormat_encodes {n : Nat} {c : Config} (hn : n ≤ 8) {g : BitVec n → Instr}
    (hg : ∀ w, Encodes c (g w) [w.setWidth 8]) {bs rest : List Byte} {i : Instr}
    (h : (takeByte n bs).map (fun p => (g p.1, p.2)) = .ok (i, rest)) :
    ∃ w, Encodes c i w ∧ bs = w ++ rest := by
  obtain ⟨w, rfl, rfl⟩ := (byteFormat_eq_ok hn g).1 h
  exact ⟨_, hg w, rfl⟩

/-- A format of two bytes whose words are those of its rows. -/
theorem wordFormat_encodes {n : Nat} {c : Config} (hn : n ≤ 16) {g : BitVec n → Instr}
    (hg : ∀ w, Encodes c (g w) (wordBytes w)) {bs rest : List Byte} {i : Instr}
    (h : (takeWord n bs).map (fun p => (g p.1, p.2)) = .ok (i, rest)) :
    ∃ w, Encodes c i w ∧ bs = w ++ rest := by
  obtain ⟨w, rfl, rfl⟩ := (wordFormat_eq_ok hn g).1 h
  exact ⟨_, hg w, rfl⟩

/-- A transmit-phase format, whatever row its two levels are handed to. -/
theorem decodeLines_encodes {c : Config} {row : Level → Level → Instr}
    (hrow : ∀ clk dat, Encodes c (row clk dat) [(linesWord clk dat).setWidth 8])
    {bs rest : List Byte} {i : Instr} (h : decodeLines row bs = .ok (i, rest)) :
    ∃ w, Encodes c i w ∧ bs = w ++ rest :=
  byteFormat_encodes (by decide) (g := fun w => row (w.getLsbD 1) (w.getLsbD 0))
    (fun w => by
      have hw := hrow (w.getLsbD 1) (w.getLsbD 0)
      rwa [linesWord_fields] at hw) h

theorem decode_encodes {c : Config} {f : Format} {bs rest : List Byte} {i : Instr}
    (h : decode c f bs = .ok (i, rest)) : ∃ w, Encodes c i w ∧ bs = w ++ rest := by
  cases f with
  | wireFrame => exact wordFormat_encodes (by decide) (decodeFrame_encodes c) h
  | rxObserve => exact byteFormat_encodes (by decide) (decodeRx_encodes c) h
  | replyEvent => exact wordFormat_encodes (by decide) (decodeReply_encodes c false) h
  | replyEventNoneSent => exact wordFormat_encodes (by decide) (decodeReply_encodes c true) h
  | keyEvent => exact wordFormat_encodes (by decide) (decodeKey_encodes c) h
  | txSettle | txWlow | txWhigh | txAck1 | txAck2 | txAck3 =>
    exact decodeLines_encodes (fun _ _ => ⟨rfl, rfl⟩) h
  | command2 =>
    match bs, h with
    | op :: m :: bs, h =>
      rw [decode] at h
      cases hd : decodeSetLeds c op m with
      | error e => rw [hd] at h; cases h
      | ok j => rw [hd] at h; cases h; exact ⟨_, decodeSetLeds_encodes hd, rfl⟩
  | commandN =>
    unfold decode at h
    dsimp only at h
    split at h
    · cases h
    split at h <;> cases h
    exact ⟨bs, ⟨by simp [Instr.wf, *]; omega, rfl⟩, (List.append_nil bs).symm⟩

/-- Settles O55: each format's words are those of the rows it decodes to. -/
theorem encodeInvertsDecode : Obligations.EncodeInvertsDecode := by
  intro c f bs rest i h
  obtain ⟨w, ⟨hwf, hw⟩, hbs⟩ := decode_encodes h
  exact ⟨hwf, w, hw, hbs⟩

/-- Settles O56: each word is read in its format under the default configuration. -/
theorem tableWordsDecode : Obligations.TableWordsDecode := by
  unfold Obligations.TableWordsDecode
  and_intros <;> rfl

end Sys2Proof
end

section
/-! PROOF. The wire frame's parity bit and the layout of its word (R93 to R95). -/

namespace Sys2Proof.Machine

theorem popcount_eq (v : Byte) :
    popcount v = (v.getLsbD 0).toNat + ((v.getLsbD 1).toNat + ((v.getLsbD 2).toNat +
      ((v.getLsbD 3).toNat + ((v.getLsbD 4).toNat + ((v.getLsbD 5).toNat +
      ((v.getLsbD 6).toNat + (v.getLsbD 7).toNat)))))) := by
  simp [popcount, List.range_succ]

/-- One more bit to count turns the parity where it is 1. -/
theorem even_toNat_add (b : Bool) (n : Nat) :
    ((b.toNat + n) % 2 == 0) = (b ^^ (n % 2 == 0)) := by
  rw [Bool.eq_iff_iff]
  cases b
  · simp
  · simp; omega

theorem even_toNat (b : Bool) : (b.toNat % 2 == 0) = (b ^^ true) := by cases b <;> rfl

/-- R94: the parity bit counts the bits one by one. -/
theorem oddpar_eq_xor (v : Byte) :
    oddpar v = (true ^^ v.getLsbD 0 ^^ v.getLsbD 1 ^^ v.getLsbD 2 ^^ v.getLsbD 3 ^^ v.getLsbD 4 ^^
      v.getLsbD 5 ^^ v.getLsbD 6 ^^ v.getLsbD 7) := by
  simp only [oddpar, popcount_eq, even_toNat_add, even_toNat, Bool.xor_assoc]
  rw [Bool.xor_comm true]
  simp only [Bool.xor_assoc]

/-- R95: the parity bit is 1 exactly where the count is even. -/
theorem popcount_add_oddpar_odd (v : Byte) : (popcount v + (oddpar v).toNat) % 2 = 1 := by
  unfold oddpar
  rcases Nat.mod_two_eq_zero_or_one (popcount v) with h | h <;> simp [h, Nat.add_mod]

/-- Settles O57, by the law of one bit more and by the two parities of the count. -/
theorem oddParityLaw : Obligations.OddParityLaw :=
  fun v => ⟨oddpar_eq_xor v, popcount_add_oddpar_odd v⟩

/-- Settles O58: the fields of a frame word stand one above the other. -/
theorem frameWordLayout : Obligations.FrameWordLayout := by
  intro v
  have hfw : (fw v).toNat =
    (BitVec.ofBool true ++ BitVec.ofBool (oddpar v) ++ v ++ BitVec.ofBool false).toNat := rfl
  rw [hfw, BitVec.toNat_append, BitVec.toNat_append, BitVec.toNat_append]
  simp only [Nat.shiftLeft_or_distrib, ← Nat.shiftLeft_add,
    BitVec.toNat_ofBool, Bool.toNat_true, Bool.toNat_false, Nat.or_zero, Nat.reduceAdd]

end Sys2Proof.Machine
end

section
/-! PROOF. What a stimulus selects (R56, R107). -/

namespace Sys2Proof.Machine

/-- Settles O7: an owner operation is selected whatever the state is, a poll's row by the phase. -/
theorem stimulusSelectsItsRow : Obligations.StimulusSelectsItsRow := by
  intro s
  refine ⟨rfl, fun _ _ => rfl, fun _ _ => rfl, fun _ => rfl, fun _ _ _ _ => rfl, fun c d => ?_⟩
  refine ⟨fun h => ?_, fun h => ?_, fun k h => ?_, fun k h => ?_, fun h => ?_, fun h => ?_,
    fun h => ?_⟩ <;> simp only [fetch, h]

end Sys2Proof.Machine
end

section
/-! PROOF. The two command formats, as the queue takes them (R103, R104, R212). -/

namespace Sys2Proof.Machine

variable {s : State}

/-- A command of first byte `b` is stored at the tail and either waits behind an awaited byte or
begins its transmission; the rest of the block is as it was. -/
def TakenIn (b : Byte) (bs : List Byte) (s t : State) : Prop :=
  Stored s.cqTail.toNat (b :: bs) s t ∧ t.leds = s.leds ∧
  t.cqTail.toNat = s.cqTail.toNat + (b :: bs).length ∧
  SameReceiver s t ∧ SameKeys s t ∧ SameRun s t ∧ t.out = s.out ∧ t.results = s.results ∧
  (s.awaiting = true → t.awaiting = true ∧ t.cqHead = s.cqHead ∧ SameTransmitter s t) ∧
  (s.awaiting = false → t.cqHead = 1 ∧ BusRequest b s.caller t)

/-- R140, R141: a command that fits is taken in. -/
theorem acceptCommand_takenIn {b : Byte} {bs : List Byte} (hq : QueueOk s)
    (hs : s.cfg.sized = true) (hf : fits s (b :: bs).length = true) :
    ∃ t, acceptCommand (b :: bs) s = .next t ∧ TakenIn b bs s t := by
  obtain ⟨_, _, hempty, _⟩ := hq
  have htail := toNat_tail_add (tail_add_lt hs hf)
  cases ha : s.awaiting with
  | true =>
    refine ⟨_, acceptCommand_awaiting hs hf ha, stored_of_buf rfl, rfl, htail, ?_⟩
    simp [appended, ha, SameReceiver, SameKeys, SameRun, SameTransmitter]
  | false =>
    obtain ⟨hhead, htail0⟩ := hempty ha
    refine ⟨_, acceptCommand_idle hs hf ha hhead htail0, stored_of_buf rfl, rfl, htail, ?_⟩
    simp [appended, send, txBegin, writeLine, ha, SameReceiver, SameKeys, SameRun, BusRequest]

/-- R212: an LED state whose command fits is recorded, and the command taken in. -/
theorem setLeds_takenIn (n : BitVec 3) (hq : QueueOk s) (hs : s.cfg.sized = true)
    (hf : fits s 2 = true) :
    ∃ t, setLeds n s = .next t ∧
      TakenIn s.cfg.cmdSetLeds [n.setWidth 8] { s with leds := n } t := by
  rw [setLeds, if_pos hf]
  exact acceptCommand_takenIn (s := { s with leds := n }) hq hs hf

/-- Settles O23: each format hands its bytes to the queue, which takes them in where they fit. -/
theorem commandFormatsAreStored : Obligations.CommandFormatsAreStored := by
  refine ⟨fun s b bs hr hq hs hfit => ?_, fun s caps num scroll hr hq hv hfit => ?_,
    fun s bytes hr hne hfull => ?_, fun s caps num scroll hr hfull => ?_, fun s hr => ?_⟩
  · obtain ⟨t, ht, htaken⟩ := acceptCommand_takenIn hq hs (fits_iff.2 hfit)
    exact ⟨t, (whenReady_of hr _).trans ht, htaken⟩
  · obtain ⟨t, ht, hstored, hleds, hrest⟩ := setLeds_takenIn
      ((ledByte s.cfg caps num scroll).setWidth 3) hq (sized_of_valid hv) (fits_iff.2 hfit)
    have hbyte := ledByte_setWidth hv caps num scroll
    rw [hbyte] at hstored
    exact ⟨t, (whenReady_of hr _).trans ht, hstored, by rw [hleds]; exact hbyte, hrest⟩
  · refine (whenReady_of hr _).trans ?_
    rw [if_neg hne]
    exact acceptCommand_full (fits_eq_false_iff.2 hfull)
  · exact (whenReady_of hr _).trans (setLeds_full (fits_eq_false_iff.2 hfull))
  · exact whenReady_of hr _

end Sys2Proof.Machine
end

section
/-! PROOF. Runs of steps: a FRAME is the run of the STEPs it stands for, and the device's polls take
a transmission to its end. -/

namespace Sys2Proof.Machine

variable {s u : State}

/-! ### Runs -/

theorem run_succ {n : Nat} (h : step s = .next u) :
    Host.Core.run core (n + 1) s = Host.Core.run core n u := by
  have h' : core.step s = .next u := h
  simp only [Host.Core.run, h']

theorem run_add {m n : Nat} (h : Host.Core.run core m s = .next u) :
    Host.Core.run core (m + n) s = Host.Core.run core n u := by
  induction m generalizing s with
  | zero => cases h; rw [Nat.zero_add]
  | succ m ih =>
    rw [Nat.add_right_comm]
    cases hstep : step s with
    | next v =>
      rw [run_succ hstep] at h ⊢
      exact ih h
    | fault r =>
      have h' : core.step s = .fault r := hstep
      simp [Host.Core.run, h'] at h
    | refused r =>
      have h' : core.step s = .refused r := hstep
      simp [Host.Core.run, h'] at h

/-! ### FRAME -/

/-- The STEPs of a list of polls. -/
def stepsOf (ps : List (Level × Level)) : List Stimulus := ps.map fun q => .step q.1 q.2

/-- R108: the script's frame is the STEPs of its polls. -/
theorem rxFrameStar_eq (c : Config) (start : Level) (d : Byte) (p stop : Level) :
    rxFrameStar c start d p stop = stepsOf (framePolls c start d p stop) := by
  rw [rxFrameStar, framePolls, stepsOf, List.map_flatMap]
  rfl

/-- A STEP of a ready block runs its poll, which leaves the stimuli to come alone. -/
theorem step_of_poll {c d : Level} {rest : List Stimulus} (hr : Ready s)
    (h : poll c d s = .next u) :
    step { s with inputs := .step c d :: rest } = .next { u with inputs := rest } := by
  rw [step_of_fetch_ok (i := .step c d) rfl rfl]
  refine (whenReady_of (s := { s with inputs := rest }) hr _).trans ?_
  rw [poll_withInputs c d s rest, h]
  rfl

/-- A run of polls is the run of its STEPs up to the first one that starts a transmission, and those
after it are left to come (R131). -/
theorem polls_eq_run (ps : List (Level × Level)) (hi : s.initialised = true) (h : BlockInv s) :
    ∃ n t, n ≤ (stepsOf ps).length ∧ polls ps s = .next t ∧
      Host.Core.run core n { s with inputs := stepsOf ps ++ s.inputs } = .next t ∧
      (t.txPhase = .idle → n = (stepsOf ps).length) ∧
      t.inputs = (stepsOf ps).drop n ++ s.inputs := by
  induction ps generalizing s with
  | nil => exact ⟨0, s, Nat.le_refl 0, rfl, rfl, fun _ => rfl, rfl⟩
  | cons p ps ih =>
    by_cases hidle : s.txPhase = .idle
    · obtain ⟨u, hu, huinv, hcfg, hin, _, hui⟩ := poll_inv p.1 p.2 ⟨hi, hidle⟩ h
      obtain ⟨n, t, hn, ht, hrun, hall, hrest⟩ := ih (hui.trans hi) huinv
      rw [hin] at hrun hrest
      refine ⟨n + 1, t, Nat.succ_le_succ hn, ?_, ?_, fun ht => congrArg (· + 1) (hall ht), hrest⟩
      · rw [polls, if_pos hidle, hu]; exact ht
      · exact (run_succ (step_of_poll ⟨hi, hidle⟩ hu)).trans hrun
    · refine ⟨0, _, Nat.zero_le _, ?_, rfl, fun ht => absurd ht hidle, rfl⟩
      rw [polls, if_neg hidle]
      rfl

/-- Settles O59: FRAME is the run of its polls. -/
theorem frameIsItsSteps : Obligations.FrameIsItsSteps := by
  intro s start d p stop hr h
  dsimp only
  rw [rxFrameStar_eq]
  obtain ⟨n, t, hn, ht, hrest⟩ := polls_eq_run (framePolls s.cfg start d p stop) hr.1 h
  exact ⟨n, t, hn, (whenReady_of hr _).trans ht, hrest⟩

/-! ### The device's side of one byte -/

section
variable {c d : Level} {rest : List Stimulus} (hi : s.initialised = true)
include hi

/-- R152: TX_SETTLE always goes on. -/
theorem step_settle (hp : s.txPhase = .settle) (hin : s.inputs = .txp c d :: rest) :
    step s = .next { s with
      clkLo := false, datLo := true, txPhase := .wlow 0, inputs := rest } := by
  rw [step_of_fetch_ok (i := .txSettle c d) hin (by simp only [fetch, hp])]
  simp only [exec, execTxSettle, whenInitialised, hi, hp, if_true]
  rfl

/-- R153: a low phase drives its bit at a low clock. -/
theorem step_wlow {k : Fin 10} (hp : s.txPhase = .wlow k)
    (hin : s.inputs = .txp false d :: rest) :
    step s = .next { s with
      datLo := !txbit s.cfg s.txByte k, txPhase := .whigh k, inputs := rest } := by
  rw [step_of_fetch_ok (i := .txWlow false d) hin (by simp only [fetch, hp])]
  simp only [exec, execTxWlow, whenInitialised, hi, hp, if_true]
  rfl

/-- R154: a high phase goes on at a high clock. -/
theorem step_whigh {k : Fin 10} (hp : s.txPhase = .whigh k)
    (hin : s.inputs = .txp true d :: rest) :
    step s = .next (afterHigh k { s with inputs := rest }) := by
  rw [step_of_fetch_ok (i := .txWhigh true d) hin (by simp only [fetch, hp])]
  simp only [exec, execTxWhigh, whenInitialised, hi, hp, if_true]

/-- R156. -/
theorem step_ack1 (hp : s.txPhase = .ack1) (hin : s.inputs = .txp c false :: rest) :
    step s = .next { s with txPhase := .ack2, inputs := rest } := by
  rw [step_of_fetch_ok (i := .txAck1 c false) hin (by simp only [fetch, hp])]
  simp only [exec, execTxAck1, whenInitialised, hi, hp, if_true]

/-- R157. -/
theorem step_ack2 (hp : s.txPhase = .ack2) (hin : s.inputs = .txp false d :: rest) :
    step s = .next { s with txPhase := .ack3, inputs := rest } := by
  rw [step_of_fetch_ok (i := .txAck2 false d) hin (by simp only [fetch, hp])]
  simp only [exec, execTxAck2, whenInitialised, hi, hp, if_true]

/-- R158. -/
theorem step_ack3 (hp : s.txPhase = .ack3) (hin : s.inputs = .txp true true :: rest) :
    step s = .next (txComplete { s with inputs := rest }) := by
  rw [step_of_fetch_ok (i := .txAck3 true true) hin (by simp only [fetch, hp])]
  simp only [exec, execTxAck3, whenInitialised, hi, hp, and_self, if_true]

/-- The two polls of a clock phase, whatever their data levels are, drive that phase's bit. -/
theorem run_clockPhase {k : Fin 10} {x y : Level} (hp : s.txPhase = .wlow k)
    (hin : s.inputs = .txp false x :: .txp true y :: rest) :
    Host.Core.run core 2 s = .next (afterHigh k { s with
      datLo := !txbit s.cfg s.txByte k, txPhase := .whigh k, inputs := rest }) := by
  refine (run_succ (step_wlow hi hp hin)).trans (run_succ ?_)
  exact step_whigh hi rfl rfl (s := { s with
    datLo := !txbit s.cfg s.txByte k, txPhase := .whigh k, inputs := .txp true y :: rest })

end

/-- The stop bit is sent by releasing the data line. -/
theorem txbit_stop {c : Config} (hs : c.sized = true) (v : Byte) : txbit c v 9 = true := by
  simp [txbit, (sized_iff.1 hs).1]

/-- From the k-th clock phase on, the polls of those that are left lead to the end of the stop bit's
high phase. -/
theorem run_devClocks (xs : List (Level × Level)) {k : Fin 10} {rest : List Stimulus}
    (hi : s.initialised = true) (hs : s.cfg.sized = true) (hp : s.txPhase = .wlow k)
    (hk : k.val + xs.length = 10) (hin : s.inputs = devClocks xs ++ rest) :
    Host.Core.run core (2 * xs.length) s = .next (afterHigh 9 { s with
      datLo := false, txPhase := .whigh 9, inputs := rest }) := by
  induction xs generalizing s k with
  | nil => simp only [List.length_nil] at hk; omega
  | cons x xs ih =>
    obtain ⟨x, y⟩ := x
    rw [List.length_cons] at hk ⊢
    have hlen : 2 * (xs.length + 1) = 2 + 2 * xs.length := by omega
    rw [hlen]
    refine (run_add (run_clockPhase hi hp hin)).trans ?_
    by_cases hlast : k.val < 9
    · have hnext : (k + 1).val = k.val + 1 := by simp [Fin.val_add]; omega
      rw [afterHigh, if_pos (by rw [moreBits_of_sized hs]; exact decide_eq_true hlast)]
      exact ih hi hs rfl (by omega) rfl
    · obtain rfl : k = 9 := by apply Fin.ext; show k.val = 9; omega
      obtain rfl : xs = [] := List.length_eq_zero_iff.1 (by simp at hk; omega)
      rw [txbit_stop hs]
      rfl

/-- After the last high phase the transmission ends, or the line acknowledge begins (R154). -/
theorem afterHigh_last (hs : s.cfg.sized = true) :
    afterHigh 9 s =
      if s.cfg.txLineAck = .wait then { s with txPhase := .ack1 } else txComplete s := by
  rw [afterHigh, if_neg (by rw [moreBits_of_sized hs]; decide)]

/-- The settle phase's poll and the twenty clock polls lead to the end of the stop bit. -/
theorem run_settle_devClocks {xs : List (Level × Level)} {rest : List Stimulus}
    (hi : s.initialised = true) (hs : s.cfg.sized = true) (hp : s.txPhase = .settle)
    (hlen : xs.length = 10) (hin : s.inputs = .txp false false :: (devClocks xs ++ rest)) :
    Host.Core.run core 21 s = .next (afterHigh 9 { s with
      clkLo := false, datLo := false, txPhase := .whigh 9, inputs := rest }) := by
  have hclocks := run_devClocks xs (k := 0) (rest := rest)
    (s := { s with
      clkLo := false, datLo := true, txPhase := .wlow 0, inputs := devClocks xs ++ rest })
    hi hs rfl (by simp [hlen]) rfl
  rw [hlen] at hclocks
  exact (run_succ (step_settle hi hp hin)).trans hclocks

/-- The three polls of the line acknowledge end the transmission (R156 to R159). -/
theorem run_lineAck {rest : List Stimulus} (hi : s.initialised = true) (hp : s.txPhase = .ack1)
    (hin : s.inputs = [.txp true false, .txp false false, .txp true true] ++ rest) :
    Host.Core.run core 3 s = .next (txComplete { s with inputs := rest, txPhase := .ack3 }) := by
  have hack2 := step_ack2 hi rfl rfl
    (s := { s with txPhase := .ack2, inputs := .txp false false :: .txp true true :: rest })
  have hack3 := step_ack3 hi rfl rfl
    (s := { s with txPhase := .ack3, inputs := .txp true true :: rest })
  exact (run_succ (step_ack1 hi hp hin)).trans ((run_succ hack2).trans (run_succ hack3))

/-- Settles O35: the settle phase's poll, the ten clock phases, and the line acknowledge where the
configuration waits for it. -/
theorem deviceClocksCompleteTheByte : Obligations.DeviceClocksCompleteTheByte := by
  intro s xs rest hi hs hp hlen hin
  cases hack : s.cfg.txLineAck with
  | noWait =>
    have hrun := run_settle_devClocks (rest := rest) hi hs hp hlen
      (by rw [hin, hack]; simp [devRx])
    refine hrun.trans (congrArg _ ((afterHigh_last ?_).trans (if_neg ?_)))
    · exact hs
    · simp [hack]
  | wait =>
    have hrun := run_settle_devClocks hi hs hp hlen
      (rest := [.txp true false, .txp false false, .txp true true] ++ rest)
      (by rw [hin, hack]; simp [devRx])
    refine (run_add (n := 3) (hrun.trans (congrArg _ ((afterHigh_last ?_).trans
      (if_pos ?_))))).trans ?_
    · exact hs
    · exact hack
    · exact run_lineAck hi rfl rfl

end Sys2Proof.Machine
end

section
/-! PROOF. The Frame Receiver: polls and observed bits, the end of a frame, and the receipt of a
whole frame (R120 to R130). -/

namespace Sys2Proof.Machine

variable {s : State}

/-! ### Polls and observed bits -/

/-- Settles O8: a poll is its two cases, with a falling edge and without one. -/
theorem pollObservesFallingEdges : Obligations.PollObservesFallingEdges := by
  intro s c d hr
  have hstep : exec (.step c d) s = poll c d s := whenReady_of hr _
  refine ⟨fun hno => ?_, fun hedge => ?_⟩
  · rw [hstep, poll_no_edge d (edge_eq_false.2 hno)]
  · rw [hstep, poll_edge d (edge_eq_true.2 hedge)]
    exact (whenReady_of (s := { s with prevClk := c }) hr _).symm

/-- R121: the row that handles a bit observed in a receive state. -/
def receiveRow : RxState → Level → Instr
  | .idle, b => .rxStart b
  | .data, b => .rxData b
  | .parityBit, b => .rxParity b
  | .stopBit, b => .rxStop b

/-- A receive-state word names the row of its state. -/
theorem decodeRx_code (x : RxState) (b : Level) :
    decodeRx (rxWord x.code.1 x.code.2 b) = receiveRow x b := by
  cases x <;> revert b <;> decide

/-- R121: an observed bit does what that row does. -/
theorem exec_observeBit (b : Level) (s : State) :
    exec (.observeBit b) s = exec (receiveRow s.rxState b) s := by
  cases hx : s.rxState <;>
    simp only [exec, execObserveBit, observeBit, receiveRow, hx,
      execRxStart, execRxData, execRxParity, execRxStop] <;> rfl

/-- Settles O9: the row of the receive state, and the decoder's reading of that state's code. -/
theorem observedBitSelectsReceiveRow : Obligations.ObservedBitSelectsReceiveRow := by
  intro s b _
  have hrow : ∀ x, s.rxState = x → exec (.observeBit b) s = exec (receiveRow x b) s := by
    rintro x rfl
    exact exec_observeBit b s
  exact ⟨hrow _, hrow _, hrow _, hrow _, by rw [decodeRx_code]; exact hrow _ rfl⟩

/-! ### The rows in their receive state -/

/-- A row of the ready block has its effect in the receive state that selects it. -/
theorem whenReady_selected {x : RxState} (hr : Ready s) (hx : s.rxState = x) (o : Outcome) :
    whenReady s (whenSelected (s.rxState == x) o) = o := by
  rw [whenReady_of hr, hx, beq_self_eq_true, whenSelected_true]

/-- Settles O10: what the start bit writes, in the state that selects its row. -/
theorem startBitOpensFrame : Obligations.StartBitOpensFrame := fun s b hr hx =>
  (whenReady_selected hr hx _).trans (congrArg _ (rxStart_eq b s))

/-- R123's shifted bit, written as a choice between the two bytes. -/
theorem bitAt_eq_ite (b : Level) (n : Nat) :
    bitAt b n = (if b = true then 0x01 else 0x00 : Byte) <<< n := by
  cases b <;> rfl

/-- Settles O11: what a data bit writes, with its shift spelled out. -/
theorem dataBitEntersAccumulator : Obligations.DataBitEntersAccumulator := by
  intro s b hr hx hcount
  refine (whenReady_selected hr hx _).trans ?_
  rw [rxData_eq b hcount, bitAt_eq_ite, hx]

/-- Settles O12: what the parity bit writes, in the state that selects its row. -/
theorem parityBitIsChecked : Obligations.ParityBitIsChecked := fun s b hr hx =>
  (whenReady_selected hr hx _).trans (congrArg _ (rxParity_eq b s))

/-! ### Deliveries -/

theorem exec_deliver (hr : Ready s) (v : Byte) (e : Bool) :
    exec (.deliver v e) s = deliver v e s := whenReady_of hr _

theorem exec_khDecoded (hr : Ready s) (ha : s.awaiting = false) (v : Byte) (e : Bool) :
    exec (.khDecoded v e) s = khDecoded v e s := by
  refine (whenReady_of hr _).trans ?_
  rw [ha]
  rfl

theorem exec_cqReply (hr : Ready s) (ha : s.awaiting = true) (v : Byte) (e : Bool) :
    exec (.cqReply v e) s = cqReply v e s := by
  refine (whenReady_of hr _).trans ?_
  rw [ha]
  rfl

/-- Settles O14: `awaiting` selects the consumer. -/
theorem deliveryIsRouted : Obligations.DeliveryIsRouted := by
  intro s v e hr
  rw [exec_deliver hr, deliver]
  split
  · next ha => exact (exec_cqReply hr ha v e).symm
  · next ha => exact (exec_khDecoded hr (Bool.eq_false_iff.2 ha) v e).symm

/-- Settles O15: the delivery completes, and it is that of the consumer it is routed to. -/
theorem deliveryCompletes : Obligations.DeliveryCompletes := by
  intro s v e hr h
  obtain ⟨t, ht, _, hrx, hrun⟩ := deliver_inv v e hr h
  have hexec : exec (.deliver v e) s = .next t := (exec_deliver hr v e).trans ht
  have hrouted := (deliveryIsRouted s v e hr).symm.trans hexec
  refine ⟨t, hexec, fun ha => ?_, fun ha => ?_, hrx, hrun⟩
  · rwa [if_pos ha] at hrouted
  · rwa [if_neg (by simp [ha])] at hrouted

/-! ### The end of a frame -/

/-- The stop bit records its error, and the frame ends. -/
theorem rxStop_eq (b : Level) (s : State) :
    rxStop b s = completeFrame { s with
      rxErr := if b = false ∧ s.rxErr = .none then .stop else s.rxErr } := by
  cases b <;> simp [rxStop, recordErr_eq]

/-- A frame ends with its diagnostic, its delivery and the receiver's reset. -/
theorem completeFrame_eq (s : State) :
    completeFrame s = andThen
      (deliver s.rxAcc (decide (s.rxErr ≠ .none)) { s with out := s.out ++ framingDiags s.rxErr })
      fun t => .next (rxReset t) := by
  rw [completeFrame, emitFramingDiag_eq, hasError]

/-- Where the invariant holds a stop bit completes, ends in the receiver's reset and leaves the edge
detector alone. -/
theorem rxStop_completes (b : Level) (hr : Ready s) (hx : s.rxState = .stopBit)
    (h : BlockInv s) : ∃ u, rxStop b s = .next (rxReset u) ∧ u.prevClk = s.prevClk := by
  have hrec := inv_recordErr (k := .stop) (by simp [hx]) h
  rw [recordErr_eq] at hrec
  cases b with
  | true =>
    obtain ⟨u, _, hu, _, hclk, _⟩ := completeFrame_inv hr h
    exact ⟨u, hu, hclk⟩
  | false =>
    obtain ⟨u, _, hu, _, hclk, _⟩ := completeFrame_inv
      (s := { s with rxErr := if s.rxErr = .none then .stop else s.rxErr }) hr hrec
    exact ⟨u, by rw [← hu, rxStop_eq]; simp, hclk⟩

/-- Settles O13: the end of the frame in the state with the stop bit's error recorded. -/
theorem stopBitDeliversAndResets : Obligations.StopBitDeliversAndResets := by
  intro s b hr hx k
  have hstop : exec (.rxStop b) s = rxStop b s := whenReady_selected hr hx _
  rw [hstop]
  refine ⟨fun u hu => ?_, fun h => ?_⟩
  · have hdeliver := (exec_deliver (by exact hr) _ _).symm.trans hu
    rw [rxStop_eq, completeFrame_eq]
    exact congrArg (andThen · fun t => .next (rxReset t)) hdeliver
  · obtain ⟨u, hu, hclk⟩ := rxStop_completes b hr hx h
    exact ⟨rxReset u, hu, rfl, rfl, rfl, rfl, hclk⟩

/-- Settles O16: one case for each receive state; the count decides where a data bit leads. -/
theorem receiveStateTransitions : Obligations.ReceiveStateTransitions := by
  intro s b hr h
  have hobs : exec (.observeBit b) s = observeBit b s := whenReady_of hr _
  rw [hobs]
  cases hx : s.rxState <;> simp only [observeBit, hx]
  case idle => exact ⟨rxStart b s, rfl, by simp⟩
  case data =>
    have hcount := ((h.2 hr.1).1.2.1 hx).1
    refine ⟨_, rxData_eq b hcount, by simp, fun hlt => ?_, fun heq => ?_, by simp, by simp⟩
    · dsimp only
      rw [if_neg (Nat.ne_of_lt hlt.2), hx]
    · exact if_pos heq.2
  case parityBit => exact ⟨rxParity b s, rfl, by simp⟩
  case stopBit =>
    obtain ⟨u, hu, _⟩ := rxStop_completes b hr hx h
    exact ⟨rxReset u, hu, by simp [rxReset]⟩

/-! ### A whole frame -/

/-- The receiver of an idle block is as its own reset leaves it. -/
theorem rxReset_of_idle (hrx : RxOk s) (hx : s.rxState = .idle) : rxReset s = s := by
  obtain ⟨hcount, hacc, herr⟩ := hrx.1 hx
  rw [rxReset, ← hx, ← hcount, ← hacc, ← herr]

/-- R130: a frame presented to an idle receiver ends in the delivery of its byte, after which the
receiver's own reset finds nothing to change. -/
theorem exec_frame_of_idle (start : Level) (d : Byte) (p stop : Level) (hr : Ready s)
    (hrx : RxOk s) (hs : s.cfg.sized = true) (hx : s.rxState = .idle) :
    exec (.frame start d p stop) s = deliver d (decide (frameError start d p stop ≠ .none))
      { s with prevClk := false, out := s.out ++ framingDiags (frameError start d p stop) } := by
  obtain ⟨_, _, herr⟩ := hrx.1 hx
  refine (whenReady_of hr _).trans ?_
  rw [polls_frame start d p stop (sized_iff.1 hs).1 hr.2 hx herr, completeFrame_eq,
    deliver_rxReset]
  exact congrArg (fun t : State => deliver d (decide (frameError start d p stop ≠ .none))
    { t with
      prevClk := false
      out := s.out ++ framingDiags (frameError start d p stop) }) (rxReset_of_idle hrx hx)

/-- A delivery leaves the receiver's registers as they were. -/
theorem deliver_sameReceiver (v : Byte) (e : Bool) (s : State) :
    Answers (SameReceiver s) (deliver v e s) :=
  (deliver_outside v e s).mono fun _ h => h.1

/-- Settles O17: the frame's delivery, which completes and leaves the receiver in Idle. -/
theorem frameIsDeliveredWhole : Obligations.FrameIsDeliveredWhole := by
  intro s start d p stop hr hrx hs hx k u
  have hframe := exec_frame_of_idle start d p stop hr hrx hs hx
  refine ⟨hframe.trans (exec_deliver (s := u) hr _ _).symm, fun h => ?_⟩
  obtain ⟨t, ht, _⟩ := polls_inv (framePolls s.cfg start d p stop) hr.1 h
  have hexec : exec (.frame start d p stop) s = .next t := (whenReady_of hr _).trans ht
  obtain ⟨hstate, _⟩ := deliver_sameReceiver _ _ _ t (hframe.symm.trans hexec)
  exact ⟨t, hexec, hstate.trans hx⟩

/-- R93: the frame word of a byte fails no check. -/
theorem frameError_oddpar (v : Byte) : frameError false v (oddpar v) true = .none := by
  simp [frameError]

/-- Settles O18: the frame word decodes to the frame that fails no check. -/
theorem frameWordRoundTrip : Obligations.FrameWordRoundTrip := by
  intro s v hr hrx hs hx ha
  have hframe : exec (decodeFrame (fw v)) s = deliver v false { s with prevClk := false } := by
    rw [fw, decodeFrame_frameWord, exec_frame_of_idle false v (oddpar v) true hr hrx hs hx,
      frameError_oddpar]
    simp [framingDiags]
  refine ⟨?_, fun t ht => ?_⟩
  · rw [hframe, exec_khDecoded (s := { s with prevClk := false }) hr ha, deliver,
      if_neg (by simp [ha])]
  · obtain ⟨hcount, hacc, herr⟩ := hrx.1 hx
    obtain ⟨h1, h2, h3, h4, _⟩ := deliver_sameReceiver v false _ t (hframe.symm.trans ht)
    exact ⟨h1.trans hx, h2.trans hcount, h3.trans hacc, h4.trans herr⟩

end Sys2Proof.Machine
end

section
/-! PROOF. The transmitter: what each transmit row does in its own phase, and that polls which do
not meet a phase's line condition change nothing (R152 to R160). -/

namespace Sys2Proof.Machine

variable {s : State}

/-! ### Each transmit row in its own phase -/

section
variable (hi : s.initialised = true)
include hi

theorem exec_txSettle (hp : s.txPhase = .settle) (c d : Level) :
    exec (.txSettle c d) s =
      .next { s with datLo := true, clkLo := false, txPhase := .wlow 0 } :=
  (whenInitialised_of hi _).trans (if_pos hp)

theorem exec_txWlow {k : Fin 10} (hp : s.txPhase = .wlow k) (c d : Level) :
    exec (.txWlow c d) s =
      if c = false then .next { s with datLo := !txbit s.cfg s.txByte k, txPhase := .whigh k }
      else .next s := by
  simp only [exec, execTxWlow, whenInitialised_of hi, hp, writeLine]

theorem exec_txWhigh {k : Fin 10} (hp : s.txPhase = .whigh k) (c d : Level) :
    exec (.txWhigh c d) s = if c = true then .next (afterHigh k s) else .next s := by
  simp only [exec, execTxWhigh, whenInitialised_of hi, hp]

theorem exec_txAck1 (hp : s.txPhase = .ack1) (c d : Level) :
    exec (.txAck1 c d) s = if d = false then .next { s with txPhase := .ack2 } else .next s :=
  (whenInitialised_of hi _).trans (if_pos hp)

theorem exec_txAck2 (hp : s.txPhase = .ack2) (c d : Level) :
    exec (.txAck2 c d) s = if c = false then .next { s with txPhase := .ack3 } else .next s :=
  (whenInitialised_of hi _).trans (if_pos hp)

theorem exec_txAck3 (hp : s.txPhase = .ack3) (c d : Level) :
    exec (.txAck3 c d) s = if c = true ∧ d = true then .next (txComplete s) else .next s :=
  (whenInitialised_of hi _).trans (if_pos hp)

theorem exec_txComplete (hlast : lastPhase s = true) :
    exec .txComplete s = .next (txComplete s) :=
  (whenInitialised_of hi _).trans (if_pos hlast)

end

/-! ### The end of a high phase -/

theorem moreBits_eq_true_iff {c : Config} {k : Fin 10} :
    moreBits c k = true ↔ k.val < 9 ∧ k.val + 2 < c.frameBits := by simp [moreBits]

theorem moreBits_eq_false_iff {c : Config} {k : Fin 10} :
    moreBits c k = false ↔ k.val = 9 ∨ c.frameBits ≤ k.val + 2 := by
  rw [← Bool.not_eq_true, moreBits_eq_true_iff]; omega

theorem lastPhase_of_whigh {k : Fin 10} (hp : s.txPhase = .whigh k)
    (hmore : moreBits s.cfg k = false) (hack : s.cfg.txLineAck = .noWait) :
    lastPhase s = true := by simp [lastPhase, hp, hmore, hack]

theorem lastPhase_of_ack3 (hp : s.txPhase = .ack3) : lastPhase s = true := by
  simp only [lastPhase, hp]

/-! ### The statements of the single phases -/

/-- Settles O30: the row of the settle phase has no condition. -/
theorem settleDrivesTheStartBit : Obligations.SettleDrivesTheStartBit :=
  fun _ c d hi hp => exec_txSettle hi hp c d

/-- Settles O31: the low phase's row at each of the two clock levels. -/
theorem lowPhaseDrivesTheBit : Obligations.LowPhaseDrivesTheBit :=
  fun _ _ d hi hp => ⟨exec_txWlow hi hp false d, exec_txWlow hi hp true d⟩

/-- Settles O32: what follows a high clock is decided by whether another bit is left. -/
theorem highPhaseGoesOn : Obligations.HighPhaseGoesOn := by
  intro s k d hi hp
  have hhigh : exec (.txWhigh true d) s = .next (afterHigh k s) := exec_txWhigh hi hp true d
  refine ⟨exec_txWhigh hi hp false d, fun j hj hleft => ?_, fun hend hack => ?_,
    fun hend hack => ?_⟩ <;> rw [hhigh, afterHigh]
  · have hnext : k + 1 = j := by apply Fin.ext; simp [Fin.val_add]; omega
    rw [if_pos (moreBits_eq_true_iff.2 ⟨by omega, hleft⟩), hnext]
  · rw [moreBits_eq_false_iff.2 hend, if_neg (by decide), if_pos hack]
  · have hmore := moreBits_eq_false_iff.2 hend
    rw [hmore, if_neg (by decide), if_neg (by simp [hack]),
      exec_txComplete hi (lastPhase_of_whigh hp hmore hack)]

/-- Settles O33: the row of each acknowledge phase; the third is a last phase. -/
theorem lineAcknowledgePhases : Obligations.LineAcknowledgePhases := by
  intro s c d hi
  refine ⟨fun hp => exec_txAck1 hi hp c d, fun hp => exec_txAck2 hi hp c d, fun hp => ?_⟩
  rw [exec_txComplete hi (lastPhase_of_ack3 hp)]
  exact exec_txAck3 hi hp c d

/-- Settles O34: both phases are last ones, and in both the drivers are those of a released line. -/
theorem completionReturnsToTheOwner : Obligations.CompletionReturnsToTheOwner := by
  intro s hi hp
  refine ⟨exec_txComplete hi ?_, fun ⟨hdrivers, _⟩ hs => ?_⟩
  · rcases hp with ⟨hp, hack⟩ | hp
    · exact lastPhase_of_whigh hp (moreBits_eq_false_iff.2 (.inl rfl)) hack
    · exact lastPhase_of_ack3 hp
  · rcases hp with ⟨hp, _⟩ | hp
    · simpa [hp, drivers, txbit_stop hs] using hdrivers
    · simpa [hp, drivers] using hdrivers

/-! ### A device that does not clock -/

/-- The row that a poll selects only waits where the lines do not meet the phase's condition. -/
theorem exec_of_unmet {c d : Level} {i : Instr} (hi : s.initialised = true)
    (hf : fetch s (.txp c d) = .ok i) (hunmet : lineCondition s.txPhase c d = false) :
    exec i s = .next s := by
  cases hp : s.txPhase <;> simp only [fetch, hp, lineCondition] at hf hunmet <;> cases hf
  case settle => cases hunmet
  case wlow k => rw [exec_txWlow hi hp, if_neg]; simpa using hunmet
  case whigh k => rw [exec_txWhigh hi hp, if_neg]; simpa using hunmet
  case ack1 => rw [exec_txAck1 hi hp, if_neg]; simpa using hunmet
  case ack2 => rw [exec_txAck2 hi hp, if_neg]; simpa using hunmet
  case ack3 => rw [exec_txAck3 hi hp, if_neg]; simpa using hunmet

/-- A poll at which the lines do not meet the phase's condition only consumes its stimulus. -/
theorem step_of_unmet {c d : Level} {rest : List Stimulus} (h : Transmitting s)
    (hunmet : lineCondition s.txPhase c d = false) (hin : s.inputs = .txp c d :: rest) :
    step s = .next { s with inputs := rest } := by
  obtain ⟨i, hf, _⟩ := exec_currentPhase h c d
  rw [step_of_fetch_ok hin hf]
  exact exec_of_unmet (s := { s with inputs := rest }) h.1 hf hunmet

/-- Settles O36, by induction on the polls: each leaves the block in its phase. -/
theorem stalledDeviceHangsTheBlock : Obligations.StalledDeviceHangsTheBlock := by
  intro s ps rest h hunmet hin
  induction ps generalizing s with
  | nil => subst hin; rfl
  | cons p ps ih =>
    obtain ⟨hp, hps⟩ := List.forall_mem_cons.1 hunmet
    exact (run_succ (step_of_unmet h hp hin)).trans (ih _ h hps rfl)

end Sys2Proof.Machine
end

section
/-! PROOF. The Command Queue: replies and what they do to the cursors, DISCARD, SEND, and ENQUEUE
(R140 to R151). -/

namespace Sys2Proof.Machine

variable {s t : State}

/-! ### Replies -/

/-- A reply's row has its effect while a reply is awaited. -/
theorem whenReady_awaiting (hr : Ready s) (ha : s.awaiting = true) (o : Outcome) :
    whenReady s (whenSelected s.awaiting o) = o := by
  rw [whenReady_of hr, ha, whenSelected_true]

theorem exec_replyNak (hr : Ready s) (ha : s.awaiting = true) (h0 : s.cqHead ≠ 0) :
    exec .replyNak s = replyNak s := by
  refine (whenReady_of hr _).trans ?_
  rw [ha, Bool.true_and, bne_iff_ne.2 h0, whenSelected_true]

theorem exec_replyNakGuard (hr : Ready s) (ha : s.awaiting = true) (h0 : s.cqHead = 0) :
    exec .replyNakGuard s = .next (replyOther s.cfg.replyNak s) := by
  refine (whenReady_of hr _).trans ?_
  rw [ha, Bool.true_and, beq_iff_eq.2 h0, whenSelected_true]

/-- R143: a reply does what the row of its class does. -/
theorem exec_cqReply_class (hr : Ready s) (ha : s.awaiting = true) (v : Byte) (e : Bool) :
    exec (.cqReply v e) s = exec (classifyReply s.cfg (s.cqHead == 0) v e) s := by
  rw [exec_cqReply hr ha, cqReply, classifyReply]
  split
  · exact (whenReady_awaiting hr ha _).symm
  split
  · exact (whenReady_awaiting hr ha _).symm
  split
  · next hv =>
    by_cases h0 : s.cqHead = 0
    · rw [if_pos h0, if_pos (beq_iff_eq.2 h0), exec_replyNakGuard hr ha h0, hv]
    · rw [if_neg h0, if_neg (by simpa using h0), exec_replyNak hr ha h0]
  · exact (whenReady_awaiting hr ha _).symm

/-- Settles O24: the dispatch follows the reply's class, to which its word decodes. -/
theorem replyDispatchAgreesWithDecoder : Obligations.ReplyDispatchAgreesWithDecoder := by
  intro s v e hr ha
  rw [decodeReply_replyWord, exec_cqReply_class hr ha]
  refine ⟨?_, rfl⟩
  simp only [classifyReply, apply_ite (exec · s), beq_iff_eq]

/-- A byte within the buffer's range and below the tail is read and sent. -/
theorem sendAt_of_lt {i : Nat} (hcap : i < s.cfg.queueCap) (htail : i < s.cqTail.toNat)
    (h : BitVec 4) :
    sendAt i h s = .next (send (Memory.read s.buf i) { s with cqHead := h }) := by
  rw [sendAt_eq_next, bufRead, if_pos ⟨hcap, htail⟩]
  exact ⟨_, rfl, rfl⟩

/-- Settles O26: the byte at the cursor is below the tail, or there is none left. -/
theorem ackAdvancesOrDrains : Obligations.AckAdvancesOrDrains := by
  intro s hr ha
  have hack : exec .replyAck s = replyAck s := whenReady_awaiting hr ha _
  refine ⟨fun hlt hcap => ?_, fun hle => ?_⟩ <;> rw [hack, replyAck]
  · rw [if_pos hlt]
    exact sendAt_of_lt (by omega) hlt _
  · rw [if_neg (by omega)]
    rfl

/-- Settles O27: under the queue's invariant the byte before the cursor is below the tail. -/
theorem nakSendsTheSameByteAgain : Obligations.NakSendsTheSameByteAgain := by
  intro s hr ha ⟨hle, hcap, _, hhead⟩
  have hhead := hhead ha
  have h0 : s.cqHead ≠ 0 := by rintro h0; simp [h0] at hhead
  rw [exec_replyNak hr ha h0]
  exact sendAt_of_lt (by omega) (by omega) _

/-- Settles O28: each of the three rows emits its diagnostic and discards. -/
theorem badRepliesDiscardTheQueue : Obligations.BadRepliesDiscardTheQueue :=
  fun _ hr ha => ⟨fun _ => whenReady_awaiting hr ha _, fun _ => whenReady_awaiting hr ha _,
    fun h0 => exec_replyNakGuard hr ha h0⟩

/-! ### DISCARD and SEND -/

/-- Settles O25: DISCARD runs in every ready block. -/
theorem discardEmptiesTheQueue : Obligations.DiscardEmptiesTheQueue :=
  fun _ hr => whenReady_of hr _

/-- Settles O29: SEND and TX_BEGIN run in every ready block. -/
theorem sendMakesTheBusRequest : Obligations.SendMakesTheBusRequest :=
  fun _ _ hr => ⟨whenReady_of hr _, whenReady_of hr _⟩

/-! ### ENQUEUE -/

theorem returnResult_idle (h : t.txPhase = .idle) (r : OpResult) :
    returnResult r t = { t with results := t.results ++ [r] } := if_pos h

theorem returnResult_busy (h : t.txPhase ≠ .idle) (r : OpResult) :
    returnResult r t = { t with caller := some r } := if_neg h

theorem resultFor_of_fits {n : Nat} (h : fits s n = true) : resultFor s n = .ok := if_pos h

theorem resultFor_of_full {n : Nat} (h : fits s n = false) : resultFor s n = .full :=
  if_neg (by simp [h])

theorem exec_enqueue (hr : Ready s) {bytes : List Byte} (hne : bytes ≠ []) :
    exec (.enqueue bytes) s = andThen (acceptCommand bytes s)
      fun t => .next (returnResult (resultFor s bytes.length) t) :=
  (whenReady_of hr _).trans (if_neg hne)

/-- Settles O21: the refusal in a ready block, and no other outcome than a refusal in any. -/
theorem emptyEnqueueIsRefused : Obligations.EmptyEnqueueIsRefused := by
  refine fun s => ⟨fun hr => whenReady_of hr _, fun t ht => ?_⟩
  obtain ⟨_, hrefused⟩ := whenReady_eq_next.1 ht
  cases hrefused

/-- Settles O19: the queue takes nothing in, and Full is returned at once. -/
theorem enqueueWithoutSpaceIsFull : Obligations.EnqueueWithoutSpaceIsFull := by
  intro s bytes hr hne hover
  have hfull := fits_eq_false_iff.2 hover
  rw [exec_enqueue hr hne, acceptCommand_full hfull, resultFor_of_full hfull, andThen_next,
    returnResult_idle hr.2]

/-- R141: where a command was taken in, its result is returned at once behind an awaited byte, and
waits for the end of the transmission it began. -/
theorem takenIn_returnResult {b : Byte} {bs : List Byte} (h : TakenIn b bs s t)
    (hidle : s.txPhase = .idle) (r : OpResult) :
    (s.awaiting = true → SameTransmitter s t ∧
      returnResult r t = { t with results := s.results ++ [r] }) ∧
    (s.awaiting = false → returnResult r t = { t with caller := some r }) := by
  obtain ⟨_, _, _, _, _, _, _, hresults, hbehind, hfirst⟩ := h
  refine ⟨fun ha => ?_, fun ha => ?_⟩
  · obtain ⟨_, _, htx⟩ := hbehind ha
    exact ⟨htx, by rw [returnResult_idle (htx.1.trans hidle), hresults]⟩
  · obtain ⟨_, _, hsettle, _⟩ := hfirst ha
    exact returnResult_busy (by simp [hsettle]) r

/-- Settles O20: the command is taken in, and its Ok is returned as the awaited byte decides. -/
theorem enqueueStoresAndStarts : Obligations.EnqueueStoresAndStarts := by
  intro s b bs hr hq hs hfit
  have hfits : fits s (b :: bs).length = true := fits_iff.2 hfit
  obtain ⟨t, ht, htaken⟩ := acceptCommand_takenIn hq hs hfits
  obtain ⟨hat, hlater⟩ := takenIn_returnResult htaken hr.2 .ok
  obtain ⟨hstored, hleds, htail, hrx, hkeys, hrun, hout, hresults, hbehind, hfirst⟩ := htaken
  refine ⟨returnResult .ok t, ?_, ?_⟩
  · rw [exec_enqueue hr (List.cons_ne_nil b bs), ht, resultFor_of_fits hfits, andThen_next]
  cases ha : s.awaiting with
  | true =>
    obtain ⟨htx, hresult⟩ := hat ha
    obtain ⟨hawaiting, hhead, _⟩ := hbehind ha
    rw [hresult]
    exact ⟨hstored, htail, hrx, hkeys, hrun, hleds, hout,
      fun _ => ⟨hawaiting, hhead, htx, rfl⟩, nofun⟩
  | false =>
    obtain ⟨hhead, hawaiting, hphase, hbyte, hclk, hdat, _⟩ := hfirst ha
    rw [hlater ha]
    exact ⟨hstored, htail, hrx, hkeys, hrun, hleds, hout, nofun,
      fun _ => ⟨hhead, ⟨hawaiting, hphase, hbyte, hclk, hdat, rfl⟩, hresults⟩⟩

end Sys2Proof.Machine
end

section
/-! PROOF. The tail only grows until it returns to 0 (R167): every operation leaves it, moves it
past a stored command, or empties the queue. -/

namespace Sys2Proof.Machine

variable {s t : State}

/-- The tail is no lower than it was, or at 0. -/
def TailRule (s t : State) : Prop := s.cqTail.toNat ≤ t.cqTail.toNat ∨ t.cqTail = 0

theorem tailRule_of_eq (h : t.cqTail = s.cqTail) : TailRule s t := .inl (by rw [h])

/-! ### The queue and the Key Handler -/

theorem acceptCommand_tailRule (bs : List Byte) (s : State) :
    Answers (TailRule s) (acceptCommand bs s) := by
  cases hf : fits s bs.length with
  | true =>
    exact (acceptCommand_stored hf).mono fun t h => .inl (h.1 ▸ Nat.le_add_right _ _)
  | false => rw [acceptCommand_full hf]; exact answers_next.2 (tailRule_of_eq rfl)

theorem setLeds_tailRule (n : BitVec 3) (s : State) : Answers (TailRule s) (setLeds n s) := by
  unfold setLeds
  split
  · exact acceptCommand_tailRule _ { s with leds := n }
  · exact answers_next.2 (tailRule_of_eq rfl)

theorem sendAt_tailRule (i : Nat) (h : BitVec 4) (s : State) :
    Answers (TailRule s) (sendAt i h s) := by
  intro t ht
  obtain ⟨v, _, rfl⟩ := sendAt_eq_next.1 ht
  exact tailRule_of_eq rfl

theorem replyAck_tailRule (s : State) : Answers (TailRule s) (replyAck s) := by
  unfold replyAck
  split
  · exact sendAt_tailRule _ _ s
  · exact answers_next.2 (.inr rfl)

theorem cqReply_tailRule (v : Byte) (e : Bool) (s : State) :
    Answers (TailRule s) (cqReply v e s) := by
  intro t ht
  rcases cqReply_eq_next ht with rfl | ht | ht | rfl
  · exact .inr rfl
  · exact replyAck_tailRule s t ht
  · exact sendAt_tailRule _ _ s t ht
  · exact .inr rfl

theorem keyPressCaps_tailRule (s : State) : Answers (TailRule s) (keyPressCaps s) :=
  setLeds_tailRule (ledsAfter s.leds s.cfg.ledCaps !s.mods.caps)
    { s with mods := { s.mods with caps := !s.mods.caps } }

theorem khDecoded_tailRule (v : Byte) (e : Bool) (s : State) :
    Answers (TailRule s) (khDecoded v e s) := by
  intro t ht
  rcases khDecoded_cases ht with ⟨m, r, rfl⟩ | hcaps | rfl
  · exact tailRule_of_eq rfl
  · exact keyPressCaps_tailRule s t hcaps
  · exact tailRule_of_eq (keyPressMapped_cqTail v s)

theorem deliver_tailRule (v : Byte) (e : Bool) (s : State) :
    Answers (TailRule s) (deliver v e s) := by
  intro t ht
  rcases deliver_eq_next ht with ⟨_, ht⟩ | ⟨_, ht⟩
  · exact cqReply_tailRule v e s t ht
  · exact khDecoded_tailRule v e s t ht

/-! ### The receiver -/

theorem rxStop_tailRule (b : Level) (s : State) : Answers (TailRule s) (rxStop b s) := by
  rw [rxStop_eq, completeFrame_eq]
  exact answers_andThen.2 ((deliver_tailRule _ _ _).mono fun _ h => answers_next.2 h)

theorem observeBit_tailRule (b : Level) (s : State) : Answers (TailRule s) (observeBit b s) :=
  answers_observeBit b (fun _ _ _ _ => tailRule_of_eq rfl) fun _ => rxStop_tailRule b s

theorem poll_tailRule (c d : Level) (s : State) : Answers (TailRule s) (poll c d s) :=
  answers_poll (tailRule_of_eq rfl) (observeBit_tailRule d { s with prevClk := c })

/-! ### The rows -/

/-- A transmit row writes the phase, the drivers and the owner's results only. -/
theorem answers_transmitRow {P : State → Prop} {i : Instr} (hrow : isTransmitRow i = true)
    (h : ∀ p clk dat rs r, P { s with
      txPhase := p, clkLo := clk, datLo := dat, results := rs, caller := r }) :
    Answers P (exec i s) := by
  cases i with
  | txSettle c d | txComplete =>
    refine answers_whenInitialised.2 fun _ => ?_
    split
    · exact answers_next.2 (h _ _ _ _ _)
    · exact answers_refused _
  | txWlow c d | txAck1 c d | txAck2 c d | txAck3 c d =>
    refine answers_whenInitialised.2 fun _ => ?_
    split
    · split <;> exact answers_next.2 (h _ _ _ _ _)
    · exact answers_refused _
  | txWhigh c d =>
    refine answers_whenInitialised.2 fun _ => ?_
    split
    · unfold afterHigh
      repeat' split
      all_goals exact answers_next.2 (h _ _ _ _ _)
    · exact answers_refused _
  | _ => cases hrow

theorem returnResult_tailRule {r : OpResult} (h : TailRule s t) :
    TailRule s (returnResult r t) := by
  rw [TailRule, returnResult_cqTail]; exact h

/-- Every row but FRAME. -/
theorem exec_tailRule {i : Instr} (hframe : ∀ a d p b, i ≠ .frame a d p b) (s : State) :
    Answers (TailRule s) (exec i s) := by
  have hregisters : ∀ x n a k, TailRule s
      { s with rxState := x, rxCount := n, rxAcc := a, rxErr := k } :=
    fun _ _ _ _ => tailRule_of_eq rfl
  cases i with
  | init => exact answers_execInit (.inr rfl)
  | frame a d p b => exact absurd rfl (hframe a d p b)
  | step c d => exact (poll_tailRule c d s).ready
  | observeBit b => exact (observeBit_tailRule b s).ready
  | rxStart b => exact (answers_next.2 (rxStart_of_registers b hregisters)).selected.ready
  | rxData b => exact (answers_rxData b hregisters).selected.ready
  | rxParity b => exact (answers_next.2 (rxParity_of_registers b hregisters)).selected.ready
  | rxStop b => exact (rxStop_tailRule b s).selected.ready
  | requestLed mask on =>
    exact (answers_andThen.2 ((setLeds_tailRule _ s).mono
      fun t h => answers_next.2 (returnResult_tailRule h))).ready
  | enqueue bytes =>
    refine Answers.ready ?_
    split
    · exact answers_refused _
    · exact answers_andThen.2 ((acceptCommand_tailRule bytes s).mono
        fun t h => answers_next.2 (returnResult_tailRule h))
  | cmdSetLeds caps num scroll => exact (setLeds_tailRule _ s).ready
  | cmdArbitrary bytes =>
    refine Answers.ready ?_
    split
    · exact answers_refused _
    · exact acceptCommand_tailRule bytes s
  | deliver v e => exact (deliver_tailRule v e s).ready
  | cqReply v e => exact (cqReply_tailRule v e s).selected.ready
  | replyAck => exact (replyAck_tailRule s).selected.ready
  | replyNak => exact (sendAt_tailRule _ _ s).selected.ready
  | khDecoded v e => exact (khDecoded_tailRule v e s).selected.ready
  | keyPressCaps => exact (keyPressCaps_tailRule s).selected.ready
  | keyPressMapped v =>
    exact (answers_next.2 (tailRule_of_eq (keyPressMapped_cqTail v s))).selected.ready
  | replyFrameError | replyOther | replyNakGuard =>
    exact (answers_next.2 (.inr rfl)).selected.ready
  | keyError | keyBreak | keyReleaseShiftL | keyReleaseShiftR | keyReleaseOther | keyPressShiftL
  | keyPressShiftR | keyPressHigh =>
    exact (answers_next.2 (tailRule_of_eq rfl)).selected.ready
  | discard => exact (answers_next.2 (.inr rfl)).ready
  | send | txBegin => exact (answers_next.2 (tailRule_of_eq rfl)).ready
  | txSettle | txWlow | txWhigh | txAck1 | txAck2 | txAck3 | txComplete =>
    exact answers_transmitRow rfl fun _ _ _ _ _ => tailRule_of_eq rfl

/-- Settles O51: only a stored command moves the tail up, and only an emptied queue takes it to
0. -/
theorem tailGrowsUntilDrained : Obligations.TailGrowsUntilDrained :=
  fun _ s t hframe h => exec_tailRule hframe s t h

end Sys2Proof.Machine
end

section
/-! PROOF. The Key Handler: the dispatch of a key event, and what each key row does in the situation
that selects it (R180 to R191). -/

namespace Sys2Proof.Machine

variable {s : State}

/-! ### The dispatch -/

/-- A key row has its effect in key context, with the release flag its word says. -/
theorem whenKey_of {r : Bool} (hready : Ready s) (ha : s.awaiting = false) (hrel : s.relPend = r)
    (o : Outcome) : whenKey s r o = o := by
  rw [whenKey, whenReady_of hready, ha, hrel, beq_self_eq_true]
  rfl

/-- A choice between the shift codes and all others is one between the left code, the right code
and all others. -/
theorem ite_isShift {α : Type} (c : Config) (v : Byte) (left right other : α) :
    (if isShift c v = true then (if v = c.scLshift then left else right) else other) =
      if v = c.scLshift then left else if v = c.scRshift then right else other := by
  by_cases hleft : v = c.scLshift
  · simp [isShift, hleft]
  · simp [isShift, hleft]

/-- R186: a key event does what the row of its class does. -/
theorem exec_khDecoded_class (hr : Ready s) (ha : s.awaiting = false) (v : Byte) (e : Bool) :
    exec (.khDecoded v e) s = exec (classifyKey s.cfg s.relPend v e) s := by
  rw [exec_khDecoded hr ha, khDecoded, classifyKey, ite_isShift, ite_isShift]
  split
  · exact (whenKey_of hr ha rfl _).symm
  split
  · exact (whenKey_of hr ha rfl _).symm
  split
  · next hrel =>
    repeat' split
    all_goals exact (whenKey_of hr ha hrel _).symm
  · next hrel =>
    have hrel : s.relPend = false := Bool.eq_false_iff.2 hrel
    repeat' split
    all_goals exact (whenKey_of hr ha hrel _).symm

/-- Settles O37: the dispatch follows the key event's class, to which its word decodes. -/
theorem keyDispatchAgreesWithDecoder : Obligations.KeyDispatchAgreesWithDecoder := by
  intro s v e hr ha
  rw [decodeKey_keyWord, exec_khDecoded_class hr ha]
  refine ⟨?_, rfl⟩
  simp only [classifyKey, apply_ite (exec · s)]

/-! ### The release flag and the shift keys -/

/-- Settles O38: neither row looks at the flag that it writes. -/
theorem errorAndBreakWriteTheReleaseFlag : Obligations.ErrorAndBreakWriteTheReleaseFlag :=
  fun _ _ hr ha => ⟨whenKey_of hr ha rfl _, whenKey_of hr ha rfl _⟩

/-- Settles O39: each release row has its effect while a release is pending. -/
theorem releasesClearTheirShift : Obligations.ReleasesClearTheirShift :=
  fun _ _ hr ha hrel =>
    ⟨whenKey_of hr ha hrel _, whenKey_of hr ha hrel _, whenKey_of hr ha hrel _⟩

/-- Settles O40: each press row has its effect while no release is pending. -/
theorem pressesSetTheirShift : Obligations.PressesSetTheirShift :=
  fun _ _ hr ha hrel =>
    ⟨whenKey_of hr ha hrel _, whenKey_of hr ha hrel _, whenKey_of hr ha hrel _⟩

/-! ### Caps-lock -/

/-- The state in which caps-lock has been toggled and nothing has been requested. -/
def capsToggled (s : State) : State := { s with mods := { s.mods with caps := !s.mods.caps } }

/-- R185: a press of caps-lock requests the LED that reflects the toggled bit. -/
theorem keyPressCaps_eq (s : State) :
    keyPressCaps s =
      setLeds (ledsAfter s.leds s.cfg.ledCaps !s.mods.caps) (capsToggled s) := rfl

/-- Settles O41: the request is handed to the queue from the toggled state; in key context the queue
is empty, so that a command that fits begins its transmission. -/
theorem capsTogglesAndRequestsLed : Obligations.CapsTogglesAndRequestsLed := by
  intro s hr ha hrel
  have hexec : exec .keyPressCaps s = keyPressCaps s := whenKey_of hr ha hrel _
  rw [hexec, keyPressCaps_eq]
  refine ⟨fun hover => setLeds_full (fits_eq_false_iff.2 hover), fun hq hs hfit => ?_⟩
  obtain ⟨t, ht, hstored, hleds, htail, hrx, ⟨hmods, hrelPend⟩, hrun, hout, hresults, _, hfirst⟩ :=
    setLeds_takenIn (s := capsToggled s) (ledsAfter s.leds s.cfg.ledCaps !s.mods.caps) hq hs
      (fits_iff.2 hfit)
  obtain ⟨hhead, hbus⟩ := hfirst ha
  obtain ⟨_, _, hempty, _⟩ := hq
  have htail0 : (capsToggled s).cqTail.toNat = 0 := congrArg BitVec.toNat (hempty ha).2
  have hleds : t.leds = ledsAfter s.leds s.cfg.ledCaps !s.mods.caps := hleds
  rw [← hleds] at hstored
  refine ⟨t, ht, hmods, fun j hj => ?_, htail0 ▸ hstored, ?_, hhead, hbus, hrx, hrun, hrelPend,
    hout, hresults⟩
  · rw [hleds]
    exact ledsAfter_getLsbD _ _ _ hj
  · exact BitVec.eq_of_toNat_eq (htail.trans (congrArg (· + 2) htail0))

/-! ### Mapped keys -/

/-- R189: what makes a character a letter. -/
theorem alpha_iff {r : Byte} : alpha r = true ↔ 0x61 ≤ r.toNat ∧ r.toNat ≤ 0x7A := by simp [alpha]

theorem shiftEffective_iff {m : Mods} :
    shiftEffective m = true ↔ m.left = true ∨ m.right = true := by simp [shiftEffective]

theorem selectsShifted_of_letter {m : Mods} {r : Byte} (h : alpha r = true) :
    selectsShifted m r = (shiftEffective m ^^ m.caps) := if_pos h

theorem selectsShifted_of_other {m : Mods} {r : Byte} (h : ¬alpha r = true) :
    selectsShifted m r = shiftEffective m := if_neg h

/-- R188, R190: for a letter shift and caps-lock undo each other, otherwise shift alone decides. -/
theorem selectedChar_eq (m : Mods) (x : KeyEntry) :
    selectedChar m x =
      if 0x61 ≤ x.regular.toNat ∧ x.regular.toNat ≤ 0x7A then
        (if (m.left = true ∨ m.right = true) ↔ m.caps = true then x.regular else x.shifted)
      else if m.left = true ∨ m.right = true then x.shifted else x.regular := by
  simp only [← alpha_iff, ← shiftEffective_iff]
  rw [selectedChar]
  by_cases hletter : alpha x.regular = true
  · rw [selectsShifted_of_letter hletter, if_pos hletter]
    cases shiftEffective m <;> cases m.caps <;> simp
  · rw [selectsShifted_of_other hletter, if_neg hletter]

/-- An entry without characters selects the empty one. -/
theorem selectedChar_of_empty {m : Mods} {x : KeyEntry} (h : x.regular = 0 ∧ x.shifted = 0) :
    selectedChar m x = 0 := by
  rw [selectedChar, h.1, h.2, ite_self]

/-- R188, R191: a mapped press emits the character that it selects, unless that is the empty one. -/
theorem keyPressMapped_eq (v : Byte) (s : State) :
    keyPressMapped v s = { s with
      out := s.out ++ (if selectedChar s.mods (keymapAt s.cfg v) = 0x00 then []
        else [.emit (selectedChar s.mods (keymapAt s.cfg v))]) } := by
  unfold keyPressMapped
  dsimp only
  split
  · next h => rw [if_pos (selectedChar_of_empty h), List.append_nil]
  split
  · rw [List.append_nil]
  · rw [emit]

/-- Settles O42: the character that the press emits is the selected one. -/
theorem mappedPressEmitsSelectedCharacter : Obligations.MappedPressEmitsSelectedCharacter := by
  intro s v hr ha hrel x letter shift c
  have hexec : exec (.keyPressMapped v) s = .next (keyPressMapped v s) := whenKey_of hr ha hrel _
  rw [hexec, keyPressMapped_eq, selectedChar_eq]

end Sys2Proof.Machine
end

section
/-! PROOF. Characters come from mapped presses only (R199): every other operation leaves the trace
or adds diagnostics to it. -/

namespace Sys2Proof.Machine

variable {s t : State}

/-! ### What an operation adds to the trace -/

/-- The characters of the trace are those that were in it before. -/
def AddsNoCharacter (s t : State) : Prop :=
  ∀ c, t.out.count (.emit c) = s.out.count (.emit c)

/-- A press in key context has added the one character that it selects, and nothing else. -/
def AddsSelectedCharacter (s t : State) : Prop :=
  ∃ c, s.awaiting = false ∧ s.relPend = false ∧
    (∃ v, c = selectedChar s.mods (keymapAt s.cfg v)) ∧ c ≠ 0x00 ∧ t.out = s.out ++ [.emit c]

/-- What a row that runs KEY_PRESS_MAPPED can have done to the trace. -/
def CharacterRule (s t : State) : Prop := AddsNoCharacter s t ∨ AddsSelectedCharacter s t

theorem addsNoCharacter_of_eq (h : t.out = s.out) : AddsNoCharacter s t := fun _ => by rw [h]

/-- A diagnostic is no character. -/
theorem addsNoCharacter_of_append {evs : List Event} (h : t.out = s.out ++ evs)
    (hevs : ∀ c, .emit c ∉ evs) : AddsNoCharacter s t := fun c => by
  rw [h, List.count_append, List.count_eq_zero_of_not_mem (hevs c), Nat.add_zero]

theorem emit_notMem_framingDiags (k : RxErr) (c : Byte) : .emit c ∉ framingDiags k := by
  cases k <;> simp [framingDiags]

/-- A character of which there are more than before is the one that a press has added. -/
theorem CharacterRule.added {c : Byte} (h : CharacterRule s t)
    (hne : t.out.count (.emit c) ≠ s.out.count (.emit c)) :
    s.awaiting = false ∧ s.relPend = false ∧
    (∃ v, c = selectedChar s.mods (keymapAt s.cfg v)) ∧ c ≠ 0x00 ∧ t.out = s.out ++ [.emit c] := by
  rcases h with h | ⟨c', ha, hrel, hsel, hc', hout⟩
  · exact absurd (h c) hne
  · obtain rfl : c' = c := by
      by_contra hother
      rw [hout] at hne
      exact hne (by simp [List.count_append, hother])
    exact ⟨ha, hrel, hsel, hc', hout⟩

/-! ### The queue -/

theorem sendAt_out (i : Nat) (h : BitVec 4) (s : State) :
    Answers (fun t => t.out = s.out) (sendAt i h s) := by
  intro t ht
  obtain ⟨v, _, rfl⟩ := sendAt_eq_next.1 ht
  rfl

theorem acceptCommand_out (bs : List Byte) (s : State) :
    Answers (fun t => t.out = s.out) (acceptCommand bs s) := by
  intro t ht
  rcases acceptCommand_eq_next.1 ht with ⟨_, rfl⟩ | ⟨_, _, ⟨_, rfl⟩ | ⟨_, v, _, rfl⟩⟩ <;> rfl

theorem setLeds_out (n : BitVec 3) (s : State) :
    Answers (fun t => t.out = s.out) (setLeds n s) := by
  unfold setLeds
  split
  · exact acceptCommand_out _ { s with leds := n }
  · exact answers_next.2 rfl

theorem replyAck_out (s : State) : Answers (fun t => t.out = s.out) (replyAck s) := by
  unfold replyAck
  split
  · exact sendAt_out _ _ s
  · exact answers_next.2 rfl

theorem replyFrameError_addsNoCharacter (s : State) : AddsNoCharacter s (replyFrameError s) :=
  addsNoCharacter_of_append (replyFrameError_out s) (by simp)

theorem replyOther_addsNoCharacter (v : Byte) (s : State) : AddsNoCharacter s (replyOther v s) :=
  addsNoCharacter_of_append (replyOther_out v s) (by simp)

theorem cqReply_addsNoCharacter (v : Byte) (e : Bool) (s : State) :
    Answers (AddsNoCharacter s) (cqReply v e s) := by
  intro t ht
  rcases cqReply_eq_next ht with rfl | ht | ht | rfl
  · exact replyFrameError_addsNoCharacter s
  · exact addsNoCharacter_of_eq (replyAck_out s t ht)
  · exact addsNoCharacter_of_eq (sendAt_out _ _ s t ht)
  · exact replyOther_addsNoCharacter v s

/-! ### The Key Handler -/

theorem keyPressCaps_out (s : State) : Answers (fun t => t.out = s.out) (keyPressCaps s) :=
  setLeds_out _ (capsToggled s)

theorem keyPressMapped_characterRule (v : Byte) (ha : s.awaiting = false)
    (hrel : s.relPend = false) : CharacterRule s (keyPressMapped v s) := by
  rcases keyPressMapped_cases v s with h | ⟨c, hc, hsel, h⟩ <;> rw [h]
  · exact .inl (addsNoCharacter_of_eq rfl)
  · exact .inr ⟨c, ha, hrel, ⟨v, hsel⟩, hc, emit_out _ s⟩

theorem khDecoded_characterRule (v : Byte) (e : Bool) (ha : s.awaiting = false) :
    Answers (CharacterRule s) (khDecoded v e s) := by
  intro t ht
  rcases khDecoded_eq_next ht with
    rfl | rfl | rfl | rfl | rfl | rfl | rfl | hcaps | ⟨hrel, rfl⟩
  iterate 7 exact .inl (addsNoCharacter_of_eq rfl)
  · exact .inl (addsNoCharacter_of_eq (keyPressCaps_out s t hcaps))
  · exact keyPressMapped_characterRule v ha hrel

/-- R180: a byte with an error is no press. -/
theorem khDecoded_error_addsNoCharacter (v : Byte) (s : State) :
    Answers (AddsNoCharacter s) (khDecoded v true s) :=
  answers_next.2 (addsNoCharacter_of_eq (clearRelease_out s))

/-! ### Deliveries -/

theorem deliver_characterRule (v : Byte) (e : Bool) (s : State) :
    Answers (CharacterRule s) (deliver v e s) := by
  intro t ht
  rcases deliver_eq_next ht with ⟨_, ht⟩ | ⟨ha, ht⟩
  · exact .inl (cqReply_addsNoCharacter v e s t ht)
  · exact khDecoded_characterRule v e ha t ht

theorem deliver_error_addsNoCharacter (v : Byte) (s : State) :
    Answers (AddsNoCharacter s) (deliver v true s) := by
  intro t ht
  rcases deliver_eq_next ht with ⟨_, ht⟩ | ⟨_, ht⟩
  · exact cqReply_addsNoCharacter v true s t ht
  · exact khDecoded_error_addsNoCharacter v s t ht

/-- R125: a frame without an error adds no diagnostic, and one with an error adds no character. -/
theorem completeFrame_characterRule (s : State) :
    Answers (CharacterRule s) (completeFrame s) := by
  rw [completeFrame_eq, answers_andThen]
  by_cases herr : s.rxErr = .none
  · have hnone : framingDiags s.rxErr = [] := by rw [herr, framingDiags]
    rw [hnone, List.append_nil]
    exact (deliver_characterRule _ _ s).mono fun t h => answers_next.2 h
  · rw [decide_eq_true herr]
    refine (deliver_error_addsNoCharacter _ _).mono fun t h => answers_next.2 (.inl fun c => ?_)
    exact (h c).trans (addsNoCharacter_of_append rfl (emit_notMem_framingDiags s.rxErr) c)

theorem rxStop_characterRule (b : Level) (s : State) :
    Answers (CharacterRule s) (rxStop b s) := by
  rw [rxStop_eq]
  exact completeFrame_characterRule { s with
    rxErr := if b = false ∧ s.rxErr = .none then .stop else s.rxErr }

theorem observeBit_characterRule (b : Level) (s : State) :
    Answers (CharacterRule s) (observeBit b s) :=
  answers_observeBit b (fun _ _ _ _ => .inl (addsNoCharacter_of_eq rfl))
    fun _ => rxStop_characterRule b s

theorem poll_characterRule (c d : Level) (s : State) :
    Answers (CharacterRule s) (poll c d s) :=
  answers_poll (.inl (addsNoCharacter_of_eq rfl))
    (observeBit_characterRule d { s with prevClk := c })

/-! ### The rows -/

/-- A row that is no delivery of a byte and no mapped press. -/
theorem exec_addsNoCharacter {i : Instr} (hrow : runsMappedPress i = false) (s : State) :
    Answers (AddsNoCharacter s) (exec i s) := by
  have hregisters : ∀ x n a k, AddsNoCharacter s
      { s with rxState := x, rxCount := n, rxAcc := a, rxErr := k } :=
    fun _ _ _ _ => addsNoCharacter_of_eq rfl
  cases i with
  | step | frame | rxStop | observeBit | deliver | khDecoded | keyPressMapped => cases hrow
  | init => exact answers_execInit (addsNoCharacter_of_eq rfl)
  | requestLed mask on =>
    exact (answers_andThen.2 ((setLeds_out _ s).mono fun t h =>
      answers_next.2 (addsNoCharacter_of_eq ((returnResult_out _ t).trans h)))).ready
  | enqueue bytes =>
    refine Answers.ready ?_
    split
    · exact answers_refused _
    · exact answers_andThen.2 ((acceptCommand_out bytes s).mono fun t h =>
        answers_next.2 (addsNoCharacter_of_eq ((returnResult_out _ t).trans h)))
  | cmdSetLeds caps num scroll =>
    exact ((setLeds_out _ s).mono fun _ => addsNoCharacter_of_eq).ready
  | cmdArbitrary bytes =>
    refine Answers.ready ?_
    split
    · exact answers_refused _
    · exact (acceptCommand_out bytes s).mono fun _ => addsNoCharacter_of_eq
  | rxStart b => exact (answers_next.2 (rxStart_of_registers b hregisters)).selected.ready
  | rxData b => exact (answers_rxData b hregisters).selected.ready
  | rxParity b => exact (answers_next.2 (rxParity_of_registers b hregisters)).selected.ready
  | cqReply v e => exact (cqReply_addsNoCharacter v e s).selected.ready
  | replyFrameError v =>
    exact (answers_next.2 (replyFrameError_addsNoCharacter s)).selected.ready
  | replyOther v => exact (answers_next.2 (replyOther_addsNoCharacter v s)).selected.ready
  | replyNakGuard => exact (answers_next.2 (replyOther_addsNoCharacter _ s)).selected.ready
  | replyAck => exact ((replyAck_out s).mono fun _ => addsNoCharacter_of_eq).selected.ready
  | replyNak => exact ((sendAt_out _ _ s).mono fun _ => addsNoCharacter_of_eq).selected.ready
  | keyPressCaps =>
    exact ((keyPressCaps_out s).mono fun _ => addsNoCharacter_of_eq).selected.ready
  | keyError | keyBreak | keyReleaseShiftL | keyReleaseShiftR | keyReleaseOther | keyPressShiftL
  | keyPressShiftR | keyPressHigh =>
    exact (answers_next.2 (addsNoCharacter_of_eq rfl)).selected.ready
  | discard | send | txBegin => exact (answers_next.2 (addsNoCharacter_of_eq rfl)).ready
  | txSettle | txWlow | txWhigh | txAck1 | txAck2 | txAck3 | txComplete =>
    exact answers_transmitRow rfl fun _ _ _ _ _ => addsNoCharacter_of_eq rfl

/-- Every row that delivers a byte or is a mapped press, but FRAME. -/
theorem exec_characterRule {i : Instr} (hrow : runsMappedPress i = true)
    (hframe : ∀ a d p b, i ≠ .frame a d p b) (s : State) :
    Answers (CharacterRule s) (exec i s) := by
  cases i with
  | frame a d p b => exact absurd rfl (hframe a d p b)
  | step c d => exact (poll_characterRule c d s).ready
  | observeBit b => exact (observeBit_characterRule b s).ready
  | rxStop b => exact (rxStop_characterRule b s).selected.ready
  | deliver v e => exact (deliver_characterRule v e s).ready
  | khDecoded v e =>
    refine Answers.ready (answers_whenSelected.2 fun ha => ?_)
    exact khDecoded_characterRule v e (by simpa using ha)
  | keyPressMapped v =>
    refine Answers.ready (answers_whenSelected.2 fun hkey => ?_)
    obtain ⟨ha, hrel⟩ : s.awaiting = false ∧ s.relPend = false := by simpa using hkey
    exact answers_next.2 (keyPressMapped_characterRule v ha hrel)
  | _ => cases hrow

/-- Settles O50: a row that adds a character is one that runs a mapped press, which adds only the
one that it selects. -/
theorem charactersComeFromPressesOnly : Obligations.CharactersComeFromPressesOnly := by
  intro i s t c hframe ht hne
  cases hrow : runsMappedPress i with
  | false => exact absurd (exec_addsNoCharacter hrow s t ht c) hne
  | true => exact ⟨rfl, (exec_characterRule hrow hframe s t ht).added hne⟩

end Sys2Proof.Machine
end

section
/-! PROOF. The owner's operations: INIT's reset, the LED request as an enqueue of its command, and
which operations return a result (R210 to R215). -/

namespace Sys2Proof.Machine

variable {s t : State}

/-! ### INIT -/

/-- R210, R211: INIT has its effect in every block that is not busy. -/
theorem exec_init_of_idle (h : s.txPhase = .idle) : exec .init s = .next (initState s) :=
  if_neg fun hbusy => hbusy.2 h

/-- Settles O2: INIT's effect, which takes every element from the reset state but those it names. -/
theorem initEstablishesResetState : Obligations.InitEstablishesResetState :=
  fun s h => ⟨initState s, exec_init_of_idle h, by and_intros <;> rfl⟩

/-! ### REQUEST_LED -/

theorem exec_requestLed (hr : Ready s) (mask : Byte) (on : Bool) :
    exec (.requestLed mask on) s = andThen (setLeds (ledsAfter s.leds mask on) s)
      fun t => .next (returnResult (resultFor s 2) t) := whenReady_of hr _

/-- R212: a request that fits is an enqueue of its command, from the state with the new LEDs. -/
theorem exec_requestLed_of_fits (hr : Ready s) (mask : Byte) (on : Bool) (hf : fits s 2 = true) :
    exec (.requestLed mask on) s =
      exec (.enqueue (ledCommand s.cfg (ledsAfter s.leds mask on)))
        { s with leds := ledsAfter s.leds mask on } := by
  rw [exec_requestLed hr, setLeds, if_pos hf]
  exact (exec_enqueue (by exact hr) (List.cons_ne_nil _ _)).symm

/-- R213: a request that does not fit gets Full at once. -/
theorem exec_requestLed_full (hr : Ready s) (mask : Byte) (on : Bool) (hf : fits s 2 = false) :
    exec (.requestLed mask on) s = .next { s with results := s.results ++ [.full] } := by
  rw [exec_requestLed hr, setLeds_full hf, andThen_next, resultFor_of_full hf,
    returnResult_idle hr.2]

/-- Settles O22: the request is refused for want of space, or is an enqueue of its command. -/
theorem ledRequestStoresCommand : Obligations.LedRequestStoresCommand := by
  intro s mask on hr
  refine ⟨fun hover => exec_requestLed_full hr mask on (fits_eq_false_iff.2 hover),
    fun hq hs hfit => ?_⟩
  obtain ⟨t, ht, hstored, htail, hrx, hkeys, hrun, hleds, hout, hbehind, hfirst⟩ :=
    enqueueStoresAndStarts { s with leds := ledsAfter s.leds mask on } s.cfg.cmdSetLeds
      [(ledsAfter s.leds mask on).setWidth 8] hr hq hs hfit
  have hleds : t.leds = ledsAfter s.leds mask on := hleds
  refine ⟨t, (exec_requestLed_of_fits hr mask on (fits_iff.2 hfit)).trans ht, fun j hj => ?_, ?_,
    htail, hrx, hkeys, hrun, hout, hbehind, hfirst⟩
  · rw [hleds]
    exact ledsAfter_getLsbD _ _ _ hj
  · rw [hleds]
    exact hstored

/-! ### Operations that return no result -/

/-- No result is returned, and none waits for the end of a transmission that did not before. -/
def NoNewResult (s t : State) : Prop :=
  t.results = s.results ∧ ∀ r, t.caller = some r → s.caller = some r

theorem noNewResult_of_eq (hresults : t.results = s.results) (hcaller : t.caller = s.caller) :
    NoNewResult s t := ⟨hresults, fun _ h => hcaller.symm.trans h⟩

theorem NoNewResult.trans {u : State} (h : NoNewResult s t) (h' : NoNewResult t u) :
    NoNewResult s u := ⟨h'.1.trans h.1, fun r hr => h.2 r (h'.2 r hr)⟩

theorem sendAt_noNewResult (i : Nat) (h : BitVec 4) (s : State) :
    Answers (NoNewResult s) (sendAt i h s) := by
  intro t ht
  obtain ⟨v, _, rfl⟩ := sendAt_eq_next.1 ht
  exact noNewResult_of_eq rfl rfl

theorem acceptCommand_noNewResult (bs : List Byte) (s : State) :
    Answers (NoNewResult s) (acceptCommand bs s) := by
  intro t ht
  rcases acceptCommand_eq_next.1 ht with ⟨_, rfl⟩ | ⟨_, _, ⟨_, rfl⟩ | ⟨_, v, _, rfl⟩⟩ <;>
    exact noNewResult_of_eq rfl rfl

theorem setLeds_noNewResult (n : BitVec 3) (s : State) :
    Answers (NoNewResult s) (setLeds n s) := by
  unfold setLeds
  split
  · exact acceptCommand_noNewResult _ { s with leds := n }
  · exact answers_next.2 (noNewResult_of_eq rfl rfl)

theorem replyAck_noNewResult (s : State) : Answers (NoNewResult s) (replyAck s) := by
  unfold replyAck
  split
  · exact sendAt_noNewResult _ _ s
  · exact answers_next.2 (noNewResult_of_eq rfl rfl)

theorem cqReply_noNewResult (v : Byte) (e : Bool) (s : State) :
    Answers (NoNewResult s) (cqReply v e s) := by
  intro t ht
  rcases cqReply_eq_next ht with rfl | ht | ht | rfl
  · exact noNewResult_of_eq rfl rfl
  · exact replyAck_noNewResult s t ht
  · exact sendAt_noNewResult _ _ s t ht
  · exact noNewResult_of_eq rfl rfl

theorem keyPressCaps_noNewResult (s : State) : Answers (NoNewResult s) (keyPressCaps s) :=
  setLeds_noNewResult _ (capsToggled s)

theorem keyPressMapped_noNewResult (v : Byte) (s : State) :
    NoNewResult s (keyPressMapped v s) :=
  noNewResult_of_eq (keyPressMapped_results v s) (keyPressMapped_caller v s)

theorem khDecoded_noNewResult (v : Byte) (e : Bool) (s : State) :
    Answers (NoNewResult s) (khDecoded v e s) := by
  intro t ht
  rcases khDecoded_cases ht with ⟨m, r, rfl⟩ | hcaps | rfl
  · exact noNewResult_of_eq rfl rfl
  · exact keyPressCaps_noNewResult s t hcaps
  · exact keyPressMapped_noNewResult v s

theorem deliver_noNewResult (v : Byte) (e : Bool) (s : State) :
    Answers (NoNewResult s) (deliver v e s) := by
  intro t ht
  rcases deliver_eq_next ht with ⟨_, ht⟩ | ⟨_, ht⟩
  · exact cqReply_noNewResult v e s t ht
  · exact khDecoded_noNewResult v e s t ht

theorem rxStop_noNewResult (b : Level) (s : State) : Answers (NoNewResult s) (rxStop b s) := by
  rw [rxStop_eq, completeFrame_eq]
  exact answers_andThen.2 ((deliver_noNewResult _ _ _).mono fun _ h => answers_next.2 h)

/-- The receiver's registers have no part in what is returned. -/
theorem registers_noNewResult (s : State) (x : RxState) (n : BitVec 4) (a : Byte) (k : RxErr) :
    NoNewResult s { s with rxState := x, rxCount := n, rxAcc := a, rxErr := k } :=
  noNewResult_of_eq rfl rfl

theorem observeBit_noNewResult (b : Level) (s : State) :
    Answers (NoNewResult s) (observeBit b s) :=
  answers_observeBit b (registers_noNewResult s) fun _ => rxStop_noNewResult b s

theorem poll_noNewResult (c d : Level) (s : State) : Answers (NoNewResult s) (poll c d s) :=
  answers_poll (noNewResult_of_eq rfl rfl) (observeBit_noNewResult d { s with prevClk := c })

theorem polls_noNewResult (ps : List (Level × Level)) (s : State) :
    Answers (NoNewResult s) (polls ps s) := by
  induction ps generalizing s with
  | nil => exact answers_next.2 (noNewResult_of_eq rfl rfl)
  | cons p ps ih =>
    unfold polls
    split
    · exact answers_andThen.2 ((poll_noNewResult p.1 p.2 s).mono
        fun u hu => (ih u).mono fun _ ht => hu.trans ht)
    · exact answers_next.2 (noNewResult_of_eq rfl rfl)

/-! ### The rows -/

/-- Every row that neither returns a result of its own nor can end a transmission. -/
theorem exec_noNewResult {i : Instr} (hreturns : returnsResult i = false)
    (hrow : isTransmitRow i = false) (s : State) : Answers (NoNewResult s) (exec i s) := by
  cases i with
  | requestLed | enqueue => cases hreturns
  | txSettle | txWlow | txWhigh | txAck1 | txAck2 | txAck3 | txComplete => cases hrow
  | init => exact answers_execInit ⟨rfl, nofun⟩
  | step c d => exact (poll_noNewResult c d s).ready
  | frame a d p b => exact (polls_noNewResult _ s).ready
  | observeBit b => exact (observeBit_noNewResult b s).ready
  | rxStart b =>
    exact (answers_next.2 (rxStart_of_registers b (registers_noNewResult s))).selected.ready
  | rxData b => exact (answers_rxData b (registers_noNewResult s)).selected.ready
  | rxParity b =>
    exact (answers_next.2 (rxParity_of_registers b (registers_noNewResult s))).selected.ready
  | rxStop b => exact (rxStop_noNewResult b s).selected.ready
  | cmdSetLeds caps num scroll => exact (setLeds_noNewResult _ s).ready
  | cmdArbitrary bytes =>
    refine Answers.ready ?_
    split
    · exact answers_refused _
    · exact acceptCommand_noNewResult bytes s
  | deliver v e => exact (deliver_noNewResult v e s).ready
  | cqReply v e => exact (cqReply_noNewResult v e s).selected.ready
  | replyAck => exact (replyAck_noNewResult s).selected.ready
  | replyNak => exact (sendAt_noNewResult _ _ s).selected.ready
  | khDecoded v e => exact (khDecoded_noNewResult v e s).selected.ready
  | keyPressCaps => exact (keyPressCaps_noNewResult s).selected.ready
  | keyPressMapped v => exact (answers_next.2 (keyPressMapped_noNewResult v s)).selected.ready
  | replyFrameError | replyOther | replyNakGuard | keyError | keyBreak | keyReleaseShiftL
  | keyReleaseShiftR | keyReleaseOther | keyPressShiftL | keyPressShiftR | keyPressHigh =>
    exact (answers_next.2 (noNewResult_of_eq rfl rfl)).selected.ready
  | discard | send | txBegin => exact (answers_next.2 (noNewResult_of_eq rfl rfl)).ready

theorem afterHigh_noNewResult_or_txComplete (k : Fin 10) (s : State) :
    NoNewResult s (afterHigh k s) ∨ afterHigh k s = txComplete s := by
  unfold afterHigh
  split
  · exact .inl (noNewResult_of_eq rfl rfl)
  · split
    · exact .inl (noNewResult_of_eq rfl rfl)
    · exact .inr rfl

/-- R159: a transmit row returns nothing, or ends the transmission. -/
theorem exec_transmitRow_noNewResult_or_txComplete {i : Instr} (hrow : isTransmitRow i = true)
    (s : State) : Answers (fun t => NoNewResult s t ∨ t = txComplete s) (exec i s) := by
  have hkeeps : NoNewResult s s := noNewResult_of_eq rfl rfl
  cases i with
  | txSettle c d =>
    refine answers_whenInitialised.2 fun _ => ?_
    split
    · exact answers_next.2 (.inl (noNewResult_of_eq rfl rfl))
    · exact answers_refused _
  | txWlow c d | txAck1 c d | txAck2 c d =>
    refine answers_whenInitialised.2 fun _ => ?_
    split
    · split
      · exact answers_next.2 (.inl (noNewResult_of_eq rfl rfl))
      · exact answers_next.2 (.inl hkeeps)
    · exact answers_refused _
  | txWhigh c d =>
    refine answers_whenInitialised.2 fun _ => ?_
    split
    · split
      · exact answers_next.2 (afterHigh_noNewResult_or_txComplete _ s)
      · exact answers_next.2 (.inl hkeeps)
    · exact answers_refused _
  | txAck3 c d =>
    refine answers_whenInitialised.2 fun _ => ?_
    split
    · split
      · exact answers_next.2 (.inr rfl)
      · exact answers_next.2 (.inl hkeeps)
    · exact answers_refused _
  | txComplete =>
    refine answers_whenInitialised.2 fun _ => ?_
    split
    · exact answers_next.2 (.inr rfl)
    · exact answers_refused _
  | _ => cases hrow

/-- R159: the end of a transmission returns the result that the blocked caller waits for, if
any. -/
theorem txComplete_results_cases (s : State) :
    (txComplete s).results = s.results ∨
      ∃ r, (txComplete s).results = s.results ++ [r] ∧ s.caller = some r := by
  rw [txComplete_results]
  cases s.caller with
  | none => exact .inl (List.append_nil _)
  | some r => exact .inr ⟨r, rfl, rfl⟩

/-- At most one result is added to those returned. -/
def AtMostOneResult (s t : State) : Prop :=
  t.results = s.results ∨ ∃ r, t.results = s.results ++ [r]

theorem returnResult_atMostOneResult {r : OpResult} (h : NoNewResult s t) :
    AtMostOneResult s (returnResult r t) := by
  rw [AtMostOneResult, returnResult_results, h.1]
  split
  · exact .inr ⟨r, rfl⟩
  · exact .inl rfl

theorem exec_atMostOneResult {i : Instr} (hreturns : returnsResult i = true) (s : State) :
    Answers (AtMostOneResult s) (exec i s) := by
  cases i with
  | requestLed mask on =>
    exact (answers_andThen.2 ((setLeds_noNewResult _ s).mono
      fun t h => answers_next.2 (returnResult_atMostOneResult h))).ready
  | enqueue bytes =>
    refine Answers.ready ?_
    split
    · exact answers_refused _
    · exact answers_andThen.2 ((acceptCommand_noNewResult bytes s).mono
        fun t h => answers_next.2 (returnResult_atMostOneResult h))
  | _ => cases hreturns

/-- A row that is not one of the two operations returns nothing, or is a transmit row and ends the
transmission. -/
theorem exec_noNewResult_or_txComplete {i : Instr} (hreturns : returnsResult i = false)
    (s : State) :
    Answers (fun t => NoNewResult s t ∨ isTransmitRow i = true ∧ t = txComplete s) (exec i s) := by
  cases hrow : isTransmitRow i with
  | false => exact (exec_noNewResult hreturns hrow s).mono fun _ => .inl
  | true =>
    exact (exec_transmitRow_noNewResult_or_txComplete hrow s).mono
      fun _ => Or.imp_right fun h => ⟨rfl, h⟩

/-- Settles O52: a row is one of the two operations, or returns nothing, or ends the transmission
for which the blocked caller waits. -/
theorem resultsComeFromTwoOperations : Obligations.ResultsComeFromTwoOperations := by
  intro i s t ht
  cases hreturns : returnsResult i with
  | true =>
    refine ⟨?_, fun _ _ _ => rfl⟩
    rcases exec_atMostOneResult hreturns s t ht with hsame | ⟨r, hone⟩
    · exact .inl hsame
    · exact .inr ⟨r, hone, .inl rfl⟩
  | false =>
    rcases exec_noNewResult_or_txComplete hreturns s t ht with ⟨hsame, hwaits⟩ | ⟨hrow, rfl⟩
    · exact ⟨.inl hsame, fun r hr hne => absurd (hwaits r hr) hne⟩
    · refine ⟨?_, by simp⟩
      exact (txComplete_results_cases s).imp_right
        fun ⟨r, hone, hr⟩ => ⟨r, hone, .inr ⟨hrow, hr⟩⟩

end Sys2Proof.Machine
end

section
/-! PROOF. Before the first INIT: no other row runs, and INIT does, in whatever state that is
(R262). -/

namespace Sys2Proof.Machine

variable {s : State}

/-! ### Every other row is refused -/

theorem whenInitialised_beforeInit (h : s.initialised = false) (o : Outcome) :
    whenInitialised s o = .refused .beforeInit := by simp [whenInitialised, h]

/-- Every transmit row is guarded by INIT having run. -/
theorem exec_transmitRow_eq_whenInitialised (s : State) {i : Instr}
    (hrow : isTransmitRow i = true) : ∃ o, exec i s = whenInitialised s o := by
  cases i with
  | txSettle | txWlow | txWhigh | txAck1 | txAck2 | txAck3 | txComplete => exact ⟨_, rfl⟩
  | _ => cases hrow

/-- Settles O4: a transmit row is guarded by INIT having run, every other one by the block being
ready, and either guard fails before the first INIT. -/
theorem nothingRunsBeforeInit : Obligations.NothingRunsBeforeInit := by
  intro s i h hinit
  cases hrow : isTransmitRow i with
  | true =>
    obtain ⟨o, ho⟩ := exec_transmitRow_eq_whenInitialised s hrow
    rw [ho, whenInitialised_beforeInit h]
  | false =>
    obtain ⟨o, ho⟩ := exec_eq_whenReady s hrow hinit
    rw [ho, whenReady_beforeInit h]

/-! ### INIT runs -/

/-- R262: a phase that the state before the first INIT happens to hold does not hold INIT up. -/
theorem exec_init_of_not_initialised (h : s.initialised = false) :
    exec .init s = .next (initState s) :=
  if_neg fun hbusy => Bool.false_ne_true (h.symm.trans hbusy.1)

theorem ready_initState (s : State) : Ready (initState s) := ⟨rfl, rfl⟩

/-- Settles O3: the state INIT answers is ready, and what holds before INIT is all that its
invariant needs. -/
theorem firstInitIsAccepted : Obligations.FirstInitIsAccepted :=
  fun s h => ⟨initState s, exec_init_of_not_initialised h, ready_initState s, inv_initState⟩

end Sys2Proof.Machine
end
